-- ==== Sys2Proof/Word.lean ====
section
/-! DEFINITION. The data the block moves: bytes (spec 00 R8, R9), normalized values (R11), and the items that
arrive on its input ports (30 R61, R77). -/

namespace Sys2Proof

/-- A byte, bit 0 least significant, always unsigned (R8, R9). -/
abbrev Byte := BitVec 8

/-- A normalized binding value in the format `VALUE`: an exact rational number (R11, D7). -/
abbrev Value := Rat

/-- What the host can present on an input port, one item at a time.
The command port takes bytes (the header `cw[7:0]` and the two bytes of `LOAD`) and operands in the format `VALUE`
(R61).
The four function units have the input ports of R77. -/
inductive PortItem where
  /-- A byte on the command port: a header, or an operand byte of `LOAD`. -/
  | byte (b : Byte)
  /-- A normalized value on the command port: the operand of `SET`. -/
  | value (v : Value)
  /-- `HATENC`'s port `dir[3:0]`: bit 3 up, bit 2 down, bit 1 left, bit 0 right. -/
  | hatencPort (dir : BitVec 4)
  /-- `QUANT`'s port: `tsel` in bits 9:8, `in` in bits 7:0. -/
  | quantPort (w : BitVec 10)
  /-- `REMAP`'s port: `msel` in bit 8, `buttons` in bits 7:0. -/
  | remapPort (w : BitVec 9)
  /-- `SER`'s port: `msel` in bit 32, then `brake`, `power`, `hat`, `buttons` (log 8). -/
  | serPort (w : BitVec 33)
  deriving DecidableEq, Repr

end Sys2Proof
end

