-- ==== Sys2Proof/Syntax.lean ====
section
/-! DEFINITION. The instructions: one constructor for each row of spec/opcode_table.json (30 R60, R62, R64, R77). -/

namespace Sys2Proof

/-- The commands of the command port, in the table's order, and the nine function-unit evaluations (R60).
A command's `idx` field is in its constructor's name; the ignored `idx` of `RESET`, `REPORT`, `SAVE` and `LOAD`
(R75) is no operand. -/
inductive Instr where
  | getPower
  | getBrake
  | getHatUp
  | getHatRight
  | getHatDown
  | getHatLeft
  | getButtonB
  | getButtonA
  | getButtonC
  | getButtonD
  | getSelect
  | getStart
  /-- `GET` of an index outside 0 to 11 (R73, R167). -/
  | getUnknown (idx : Nat)
  | setPower (v : Value)
  | setBrake (v : Value)
  | setHatUp (v : Value)
  | setHatRight (v : Value)
  | setHatDown (v : Value)
  | setHatLeft (v : Value)
  | setButtonB (v : Value)
  | setButtonA (v : Value)
  | setButtonC (v : Value)
  | setButtonD (v : Value)
  | setSelect (v : Value)
  | setStart (v : Value)
  /-- `SET` of an index outside 0 to 11 (R73, R180). -/
  | setUnknown (idx : Nat) (v : Value)
  | reset
  | report
  | save
  /-- `LOAD p, b`: power first, then brake (R183). -/
  | load (p b : Byte)
  /-- The row `REPORT.Type2`: the word of `REPORT` at an instance strapped `Type2` (R141, log 5). -/
  | reportType2
  /-- The row `REPORT.Shinkansen` (R142, log 5). -/
  | reportShinkansen
  /-- The row `REPORT.Ryojouhen` (R143, log 5). -/
  | reportRyojouhen
  /-- The row `(reserved)`: a header byte that spells no command (R74). The decoder never answers it. -/
  | reserved (header : Byte)
  | hatenc (up down left right : Bool)
  | quantT2P (x : Byte)
  | quantT2B (x : Byte)
  | quantSKP (x : Byte)
  | quantSKB (x : Byte)
  | remapT2 (b : Byte)
  | remapSK (b : Byte)
  | serT2 (brake power hat buttons : Byte)
  | serSK (brake power hat buttons : Byte)
  deriving DecidableEq, Repr

end Sys2Proof
end

