-- ==== Sys2Proof/WellFormed.lean ====
section
/-! DEFINITION. Which terms of `Instr` are instructions: an unknown index really is unknown (30 R73), a reserved
header really is reserved (R74); and which of them the binary command word can carry (`IDX_W = 4`, R61). -/

namespace Sys2Proof

/-- The instruction is one the spec has: an unknown index is 12 or above (R73), a reserved header has `op` in
`0x6` to `0xF` (R74). -/
def Instr.wf : Instr → Bool
  | .getUnknown idx => decide (12 ≤ idx)
  | .setUnknown idx _ => decide (12 ≤ idx)
  | .reserved header => decide (0x60 ≤ header.toNat)
  | .getPower | .getBrake | .getHatUp | .getHatRight | .getHatDown | .getHatLeft | .getButtonB | .getButtonA
  | .getButtonC | .getButtonD | .getSelect | .getStart => true
  | .setPower _ | .setBrake _ | .setHatUp _ | .setHatRight _ | .setHatDown _ | .setHatLeft _ | .setButtonB _
  | .setButtonA _ | .setButtonC _ | .setButtonD _ | .setSelect _ | .setStart _ => true
  | .reset | .report | .save | .load _ _ | .reportType2 | .reportShinkansen | .reportRyojouhen => true
  | .hatenc _ _ _ _ | .quantT2P _ | .quantT2B _ | .quantSKP _ | .quantSKB _ | .remapT2 _ | .remapSK _
  | .serT2 _ _ _ _ | .serSK _ _ _ _ => true

/-- The binary command word has room for the instruction's index: 4 bits (`IDX_W`, R8, R61). The abstract command
takes any natural number (R60), so a well-formed instruction need not be encodable. -/
def Instr.encodable : Instr → Bool
  | .getUnknown idx => decide (idx < 16)
  | .setUnknown idx _ => decide (idx < 16)
  | .reserved _ => true
  | .getPower | .getBrake | .getHatUp | .getHatRight | .getHatDown | .getHatLeft | .getButtonB | .getButtonA
  | .getButtonC | .getButtonD | .getSelect | .getStart => true
  | .setPower _ | .setBrake _ | .setHatUp _ | .setHatRight _ | .setHatDown _ | .setHatLeft _ | .setButtonB _
  | .setButtonA _ | .setButtonC _ | .setButtonD _ | .setSelect _ | .setStart _ => true
  | .reset | .report | .save | .load _ _ | .reportType2 | .reportShinkansen | .reportRyojouhen => true
  | .hatenc _ _ _ _ | .quantT2P _ | .quantT2B _ | .quantSKP _ | .quantSKB _ | .remapT2 _ | .remapSK _
  | .serT2 _ _ _ _ | .serSK _ _ _ _ => true

/-- The instruction is the row `(reserved)`, which spells no command (R74). -/
def Instr.isReserved : Instr → Bool
  | .reserved _ => true
  | .getUnknown _ | .setUnknown _ _ => false
  | .getPower | .getBrake | .getHatUp | .getHatRight | .getHatDown | .getHatLeft | .getButtonB | .getButtonA
  | .getButtonC | .getButtonD | .getSelect | .getStart => false
  | .setPower _ | .setBrake _ | .setHatUp _ | .setHatRight _ | .setHatDown _ | .setHatLeft _ | .setButtonB _
  | .setButtonA _ | .setButtonC _ | .setButtonD _ | .setSelect _ | .setStart _ => false
  | .reset | .report | .save | .load _ _ | .reportType2 | .reportShinkansen | .reportRyojouhen => false
  | .hatenc _ _ _ _ | .quantT2P _ | .quantT2B _ | .quantSKP _ | .quantSKB _ | .remapT2 _ | .remapSK _
  | .serT2 _ _ _ _ | .serSK _ _ _ _ => false

end Sys2Proof
end

