-- ==== Sys2Proof/Decode.lean ====
section
/-! DEFINITION. Between port items and instructions: the decoder of the command word and of the unit ports
(30 R61, R62, R64, R73 to R77), and after it the encoder. -/

namespace Sys2Proof

/-! ### Fields of a header byte and of the unit ports -/

/-- `cw[7:4]`, the field `op` (R61). -/
def opField (h : Byte) : BitVec 4 := h.extractLsb' 4 4

/-- `cw[3:0]`, the field `idx` (R61). -/
def idxField (h : Byte) : BitVec 4 := h.extractLsb' 0 4

/-- The header byte with these fields (R61). -/
def headerOf (op idx : BitVec 4) : Byte := op ++ idx

/-- `HATENC`'s `dir[3:0] = {up, down, left, right}` (R77). -/
def dirOf (up down left right : Bool) : BitVec 4 :=
  BitVec.ofBool up ++ BitVec.ofBool down ++ BitVec.ofBool left ++ BitVec.ofBool right

/-- `SER`'s port word: `msel`, `brake`, `power`, `hat`, `buttons` from the top bit down (R77, log 8). -/
def serWord (msel : BitVec 1) (brake power hat buttons : Byte) : BitVec 33 :=
  msel ++ brake ++ power ++ hat ++ buttons

/-! ### Decoding -/

/-- Why a run of port items spells no instruction. -/
inductive DecodeError where
  /-- Nothing has been presented. -/
  | noInput
  /-- "invalid": the header's `op` is reserved (R74). -/
  | reservedHeader (header : Byte)
  /-- The items end inside a command: an operand is missing (R47, R76). -/
  | missingOperand
  /-- An item of the wrong kind: a value where a byte belongs, or the other way round (R61). -/
  | misplacedItem
  deriving DecidableEq, Repr

/-- `GET idx` for any natural `idx` (R60, R64, R73). -/
def getCommand (idx : Nat) : Instr :=
  match idx with
  | 0 => .getPower
  | 1 => .getBrake
  | 2 => .getHatUp
  | 3 => .getHatRight
  | 4 => .getHatDown
  | 5 => .getHatLeft
  | 6 => .getButtonB
  | 7 => .getButtonA
  | 8 => .getButtonC
  | 9 => .getButtonD
  | 10 => .getSelect
  | 11 => .getStart
  | n => .getUnknown n

/-- `SET idx, v` for any natural `idx` (R60, R64, R73). -/
def setCommand (idx : Nat) (v : Value) : Instr :=
  match idx with
  | 0 => .setPower v
  | 1 => .setBrake v
  | 2 => .setHatUp v
  | 3 => .setHatRight v
  | 4 => .setHatDown v
  | 5 => .setHatLeft v
  | 6 => .setButtonB v
  | 7 => .setButtonA v
  | 8 => .setButtonC v
  | 9 => .setButtonD v
  | 10 => .setSelect v
  | 11 => .setStart v
  | n => .setUnknown n v

/-- The operand of `SET`, one value after the header (R61). -/
def decodeSet (idx : Nat) : List PortItem → Except DecodeError (Instr × List PortItem)
  | .value v :: rest => .ok (setCommand idx v, rest)
  | [] => .error .missingOperand
  | _ :: _ => .error .misplacedItem

/-- The operands of `LOAD`, two bytes after the header, power then brake (R61, R70). -/
def decodeLoad : List PortItem → Except DecodeError (Instr × List PortItem)
  | .byte p :: .byte b :: rest => .ok (.load p b, rest)
  | [] => .error .missingOperand
  | [.byte _] => .error .missingOperand
  | _ :: _ => .error .misplacedItem

/-- A command with this header byte and, after it, these items (R62, R74, R75). -/
def decodeCommand (h : Byte) (rest : List PortItem) : Except DecodeError (Instr × List PortItem) :=
  match (opField h).toNat with
  | 0 => .ok (getCommand (idxField h).toNat, rest)
  | 1 => decodeSet (idxField h).toNat rest
  | 2 => .ok (.reset, rest)
  | 3 => .ok (.report, rest)
  | 4 => .ok (.save, rest)
  | 5 => decodeLoad rest
  | _ => .error (.reservedHeader h)

/-- An evaluation presented on `HATENC`'s port (R77). -/
def decodeHatenc (dir : BitVec 4) : Instr :=
  .hatenc (dir.getLsbD 3) (dir.getLsbD 2) (dir.getLsbD 1) (dir.getLsbD 0)

/-- An evaluation presented on `QUANT`'s port: `tsel` 0 `T2P`, 1 `T2B`, 2 `SKP`, 3 `SKB` (R77). -/
def decodeQuant (w : BitVec 10) : Instr :=
  match (w.extractLsb' 8 2).toNat with
  | 0 => .quantT2P (w.extractLsb' 0 8)
  | 1 => .quantT2B (w.extractLsb' 0 8)
  | 2 => .quantSKP (w.extractLsb' 0 8)
  | _ => .quantSKB (w.extractLsb' 0 8)

/-- An evaluation presented on `REMAP`'s port: `msel` 0 `Type2`, 1 `Shinkansen` (R77). -/
def decodeRemap (w : BitVec 9) : Instr :=
  if w.getLsbD 8 then .remapSK (w.extractLsb' 0 8) else .remapT2 (w.extractLsb' 0 8)

/-- An evaluation presented on `SER`'s port: `msel` 0 `Type2`, 1 `Shinkansen` (R77). -/
def decodeSer (w : BitVec 33) : Instr :=
  if w.getLsbD 32 then
    .serSK (w.extractLsb' 24 8) (w.extractLsb' 16 8) (w.extractLsb' 8 8) (w.extractLsb' 0 8)
  else
    .serT2 (w.extractLsb' 24 8) (w.extractLsb' 16 8) (w.extractLsb' 8 8) (w.extractLsb' 0 8)

/-- The decoder: the first instruction of a run of port items and the items after it, or why there is none. -/
def decode : List PortItem → Except DecodeError (Instr × List PortItem)
  | [] => .error .noInput
  | .byte h :: rest => decodeCommand h rest
  | .value _ :: _ => .error .misplacedItem
  | .hatencPort dir :: rest => .ok (decodeHatenc dir, rest)
  | .quantPort w :: rest => .ok (decodeQuant w, rest)
  | .remapPort w :: rest => .ok (decodeRemap w, rest)
  | .serPort w :: rest => .ok (decodeSer w, rest)

/-! ### Encoding -/

/-- `GET idx`: one header byte `0x00 + idx` (R62, R151). -/
def encodeGet (idx : Nat) : List PortItem := [.byte (headerOf 0x0 (BitVec.ofNat 4 idx))]

/-- `SET idx, v`: the header byte `0x10 + idx`, then the value (R62, R151). -/
def encodeSet (idx : Nat) (v : Value) : List PortItem := [.byte (headerOf 0x1 (BitVec.ofNat 4 idx)), .value v]

/-- The port items that spell an instruction; an ignored `idx` is written 0 (R61, R62, R75, R77). -/
def encode : Instr → List PortItem
  | .getPower => encodeGet 0
  | .getBrake => encodeGet 1
  | .getHatUp => encodeGet 2
  | .getHatRight => encodeGet 3
  | .getHatDown => encodeGet 4
  | .getHatLeft => encodeGet 5
  | .getButtonB => encodeGet 6
  | .getButtonA => encodeGet 7
  | .getButtonC => encodeGet 8
  | .getButtonD => encodeGet 9
  | .getSelect => encodeGet 10
  | .getStart => encodeGet 11
  | .getUnknown idx => encodeGet idx
  | .setPower v => encodeSet 0 v
  | .setBrake v => encodeSet 1 v
  | .setHatUp v => encodeSet 2 v
  | .setHatRight v => encodeSet 3 v
  | .setHatDown v => encodeSet 4 v
  | .setHatLeft v => encodeSet 5 v
  | .setButtonB v => encodeSet 6 v
  | .setButtonA v => encodeSet 7 v
  | .setButtonC v => encodeSet 8 v
  | .setButtonD v => encodeSet 9 v
  | .setSelect v => encodeSet 10 v
  | .setStart v => encodeSet 11 v
  | .setUnknown idx v => encodeSet idx v
  | .reset => [.byte 0x20]
  | .report => [.byte 0x30]
  | .save => [.byte 0x40]
  | .load p b => [.byte 0x50, .byte p, .byte b]
  | .reportType2 => [.byte 0x30]
  | .reportShinkansen => [.byte 0x30]
  | .reportRyojouhen => [.byte 0x30]
  | .reserved header => [.byte header]
  | .hatenc up down left right => [.hatencPort (dirOf up down left right)]
  | .quantT2P x => [.quantPort ((0 : BitVec 2) ++ x)]
  | .quantT2B x => [.quantPort ((1 : BitVec 2) ++ x)]
  | .quantSKP x => [.quantPort ((2 : BitVec 2) ++ x)]
  | .quantSKB x => [.quantPort ((3 : BitVec 2) ++ x)]
  | .remapT2 b => [.remapPort ((0 : BitVec 1) ++ b)]
  | .remapSK b => [.remapPort ((1 : BitVec 1) ++ b)]
  | .serT2 brake power hat buttons => [.serPort (serWord 0 brake power hat buttons)]
  | .serSK brake power hat buttons => [.serPort (serWord 1 brake power hat buttons)]

/-- The instruction that an instruction's items spell. `MODEL` is not in the command word (R76), so the three rows
`REPORT.Type2`, `REPORT.Shinkansen` and `REPORT.Ryojouhen` are spelled by the word of `REPORT`; every other
instruction spells itself. -/
def Instr.spelled (i : Instr) : Instr :=
  match i with
  | .reportType2 => .report
  | .reportShinkansen => .report
  | .reportRyojouhen => .report
  | _ => i

/-- How many port items the instruction takes: one length for each command (R76). -/
def Instr.itemCount : Instr → Nat
  | .setPower _ | .setBrake _ | .setHatUp _ | .setHatRight _ | .setHatDown _ | .setHatLeft _ | .setButtonB _
  | .setButtonA _ | .setButtonC _ | .setButtonD _ | .setSelect _ | .setStart _ | .setUnknown _ _ => 2
  | .load _ _ => 3
  | .getPower | .getBrake | .getHatUp | .getHatRight | .getHatDown | .getHatLeft | .getButtonB | .getButtonA
  | .getButtonC | .getButtonD | .getSelect | .getStart | .getUnknown _ => 1
  | .reset | .report | .save | .reportType2 | .reportShinkansen | .reportRyojouhen | .reserved _ => 1
  | .hatenc _ _ _ _ | .quantT2P _ | .quantT2B _ | .quantSKP _ | .quantSKB _ | .remapT2 _ | .remapSK _
  | .serT2 _ _ _ _ | .serSK _ _ _ _ => 1

/-! ### The opcode table's numbering -/

/-- Byte number `k` of a table word. -/
def tableByte (w k : Nat) : Byte := BitVec.ofNat 8 (w / 2 ^ (8 * k))

/-- A command of the table as port items: the header is byte 0, the operand bytes of `LOAD` are bytes 1 and 2, and
the value of `SET`, for which the table has no bits, is 0. -/
def commandItems (w : Nat) : List PortItem :=
  match (opField (tableByte w 0)).toNat with
  | 1 => [.byte (tableByte w 0), .value 0]
  | 5 => [.byte (tableByte w 0), .byte (tableByte w 1), .byte (tableByte w 2)]
  | _ => [.byte (tableByte w 0)]

/-- A row's word as port items. A command row is a header byte (`nbits = 8`), or more bytes when its operands are
given. A unit row is known by the width of its port: 4 `HATENC`, 9 `REMAP`, 10 `QUANT`, 33 `SER`; 16 and 40 are 10
and 33 in whole bytes (log 9). -/
def tableItems (nbits w : Nat) : List PortItem :=
  match nbits with
  | 4 => [.hatencPort (BitVec.ofNat 4 w)]
  | 9 => [.remapPort (BitVec.ofNat 9 w)]
  | 10 => [.quantPort (BitVec.ofNat 10 w)]
  | 16 => [.quantPort (BitVec.ofNat 10 w)]
  | 33 => [.serPort (BitVec.ofNat 33 w)]
  | 40 => [.serPort (BitVec.ofNat 33 w)]
  | _ => commandItems w

/-- The instruction the decoder reads from a row's word, none where it refuses. -/
def decodeTableWord (nbits w : Nat) : Option Instr :=
  match decode (tableItems nbits w) with
  | .ok (i, _) => some i
  | .error _ => none

end Sys2Proof
end

