-- ==== Sys2Proof/Machine/Flags.lean ====
section
/-! DEFINITION. The block has no condition flags (10 R34). The flags it has are the four hat flags, and what is
computed from them is the compass code: the hat switch encoder (40). -/

namespace Sys2Proof.Machine

/-- `HATENC(up, down, left, right)`: nine tests, the first that holds gives the code; 0 is up and the codes go
clockwise, 8 is neutral (40 R91, 30 R67). -/
def hatenc (up down left right : Bool) : BitVec 4 :=
  if up && right then 1
  else if right && down then 3
  else if down && left then 5
  else if left && up then 7
  else if up then 0
  else if right then 2
  else if down then 4
  else if left then 6
  else 8

end Sys2Proof.Machine
end

