-- ==== Sys2Proof/Config.lean ====
section
/-! DEFINITION. What the spec leaves to an implementation: the named parameters of 00 R8 and the values no source
gives (93 U2, U7). -/

namespace Sys2Proof

/-- `MODEL`, the controller an instance emulates (10 R29): a strap, fixed at instantiation. -/
inductive Model where
  | type2
  | shinkansen
  /-- Declared, but without tables, remap or report layout (43 R143). -/
  | ryojouhen
  deriving DecidableEq, Repr

/-- `ROUND_TIES`: what `round` does at exactly one half (00 R8, R12, D8). -/
inductive RoundTies where
  /-- Half away from zero, the spec's value. -/
  | halfAway
  /-- Half to even, the named alternative. -/
  | halfEven
  deriving DecidableEq, Repr

/-- `AB_ORDER`: which of buttons A and B is bit 0 of `S.buttons` (00 R8, 10 R27, D9, 90 C1). -/
inductive AbOrder where
  /-- B is bit 0 and A is bit 1, the spec's value. -/
  | bLow
  /-- A is bit 0 and B is bit 1, the named alternative. -/
  | aLow
  deriving DecidableEq, Repr

/-- FREE VALUE (log 2). How far below -1 the error length lies: no source gives the value of `ERR_IOERROR`. -/
opaque Config.errIoErrorBelow : Nat

/-- `ERR_IOERROR`: any integer below 0, and no more is known of it (00 R8, D11, 93 U7). -/
def Config.errIoError : Int := -1 - (Config.errIoErrorBelow : Int)

/-- FREE VALUE (log 3). Byte number `i` of what the report buffer holds after the failing `REPORT` number `draw`:
any value, a fresh draw each time (60 R201, R206, D12, 93 U2). -/
opaque Config.freeReportByte (draw i : Nat) : Byte

end Sys2Proof
end

