-- ==== Sys2Proof/Machine/Operands.lean ====
section
/-! DEFINITION. Operand and result conversion (30 R71, R72; `round` 00 R12, `clamp` 00 R10), the bit of each button
(10 R27), and the strap codes of `MODEL` (30 R66). -/

namespace Sys2Proof.Machine

/-- `round(q)`: the nearest integer; at exactly one half, by `ROUND_TIES`: the neighbour farther from zero, or the
even one (00 R12). -/
def roundRat (ties : RoundTies) (q : Rat) : Int :=
  if q - q.floor < 1 / 2 then q.floor
  else if 1 / 2 < q - q.floor then q.floor + 1
  else
    match ties with
    | .halfAway => if 0 ≤ q then q.floor + 1 else q.floor
    | .halfEven => if q.floor % 2 = 0 then q.floor else q.floor + 1

/-- `clamp(n, lo, hi)` on integers (00 R10). -/
def clampInt (n lo hi : Int) : Int := if n < lo then lo else if hi < n then hi else n

/-- `ToRaw(v) = clamp(round(v * 255), 0, 255)`, a byte (30 R71). -/
def toRaw (ties : RoundTies) (v : Value) : Byte := BitVec.ofInt 8 (clampInt (roundRat ties (v * 255)) 0 255)

/-- `bool(b)`: true when the byte is not 0 (00 R10). -/
def boolOf (b : Byte) : Bool := b != 0

/-- `ToFlag(v) = bool(ToRaw(v))` (30 R71). -/
def toFlag (ties : RoundTies) (v : Value) : Bool := boolOf (toRaw ties v)

/-- `ToBit(v) = bit(v >= 1/2)`, compared exactly; the bit 1 is `true` (30 R71). -/
def toBit (v : Value) : Bool := decide (1 / 2 ≤ v)

/-- `FromRaw(b) = b / 255`, exact (30 R72). -/
def fromRaw (b : Byte) : Value := (b.toNat : Rat) / 255

/-- `FromBool(f)`: 1 or 0 (30 R72). -/
def fromBool (f : Bool) : Value := if f then 1 else 0

/-- `FromBit(x)`: 1 if the bit is 1, else 0 (30 R72). -/
def fromBit (x : Bool) : Value := if x then 1 else 0

/-- The six logical buttons (10 R26). -/
inductive Button where
  | b
  | a
  | c
  | d
  | select
  | start
  deriving DecidableEq, Repr

/-- The bit of `S.buttons` that is a button's; the other `AB_ORDER` exchanges A and B and nothing else (10 R27). -/
def buttonBit (order : AbOrder) : Button → Nat
  | .b => match order with
    | .bLow => 0
    | .aLow => 1
  | .a => match order with
    | .bLow => 1
    | .aLow => 0
  | .c => 2
  | .d => 3
  | .select => 4
  | .start => 5

/-- The mask of a button in `S.buttons` (10 R27). -/
def buttonMask (order : AbOrder) (button : Button) : Byte := (1 : Byte) <<< buttonBit order button

/-- The model a strap code `MODEL[1:0]` names; the reserved code 3 is a variant lacking a serializer, treated like
`Ryojouhen` (30 R66, 93 U15). -/
def modelOfStrap (code : BitVec 2) : Model :=
  match code.toNat with
  | 0 => .type2
  | 1 => .shinkansen
  | _ => .ryojouhen

end Sys2Proof.Machine
end

