-- ==== Sys2Proof/Machine/NotchTables.lean ====
section
/-! DEFINITION. The notch quantizer: the four notch ROMs (41 R103 to R106), their read (00 R10, 20 R42) and the
lookup `QUANT` (41 R102). -/

namespace Sys2Proof.Machine

/-- The four notch tables (20 R42). -/
inductive NotchTable where
  /-- Type2 power. -/
  | t2p
  /-- Type2 brake. -/
  | t2b
  /-- Shinkansen power. -/
  | skp
  /-- Shinkansen brake. -/
  | skb
  deriving DecidableEq, Repr

/-- The ROM of a table: its pairs (threshold, output) in stored order, thresholds strictly descending to 0
(R101, R103 to R106). -/
def romPairs : NotchTable → List (Byte × Byte)
  | .t2p => [(0xF8, 0x00), (0xC8, 0x21), (0x98, 0x3F), (0x58, 0x54), (0x28, 0x6D), (0x00, 0x81)]
  | .t2b => [(0xF8, 0xB9), (0xE6, 0xB5), (0xCA, 0xB2), (0xAE, 0xAF), (0x92, 0xA8), (0x76, 0xA2), (0x5A, 0x9A),
      (0x3E, 0x94), (0x22, 0x8A), (0x00, 0x79)]
  | .skp => [(0xF7, 0xFB), (0xE4, 0xE9), (0xD1, 0xD7), (0xBE, 0xC6), (0xAB, 0xB4), (0x98, 0xA2), (0x85, 0x90),
      (0x72, 0x7E), (0x5F, 0x6C), (0x4C, 0x5A), (0x39, 0x48), (0x26, 0x36), (0x13, 0x24), (0x00, 0x12)]
  | .skb => [(0xF8, 0xFB), (0xCA, 0xDF), (0xAE, 0xC3), (0x92, 0xA7), (0x76, 0x8B), (0x5A, 0x70), (0x3E, 0x54),
      (0x22, 0x38), (0x00, 0x1C)]

/-- `RomRead(T, k)`: the `k`-th pair, `k` from 0 (00 R10, 20 R42); none past the table's end. -/
def romRead (t : NotchTable) (k : Nat) : Option (Byte × Byte) := (romPairs t)[k]?

/-- The output of the first pair whose threshold is at most the input, scanning in stored order (R102). -/
def scanPairs : List (Byte × Byte) → Byte → Option Byte
  | [], _ => none
  | (threshold, output) :: rest, x => if threshold ≤ x then some output else scanPairs rest x

/-- `QUANT(T, x)` (R102). The scan always finds a pair, because every table ends in threshold 0
(`Laws.scanPairs_finds`), so the default is never taken. -/
def quant (t : NotchTable) (x : Byte) : Byte := (scanPairs (romPairs t) x).getD 0

end Sys2Proof.Machine
end

