-- ==== Sys2Proof/Machine/Remap.lean ====
section
/-! DEFINITION. The button bit remapper in its two forms (42). There is none for `Ryojouhen` (R126). -/

namespace Sys2Proof.Machine

/-- `REMAP_T2`: the identity on all 8 bits (42 R121). -/
def remapT2 (b : Byte) : Byte := b

/-- `REMAP_SK`: A and B up two places; C and D exchanged and down two; Select and Start in place; bits 7:6 dropped
(42 R122, D10). -/
def remapSK (b : Byte) : Byte :=
  ((b &&& 0x03) <<< 2) ||| ((((b &&& 0x04) <<< 1) ||| ((b &&& 0x08) >>> 1)) >>> 2) ||| (b &&& 0x30)

end Sys2Proof.Machine
end

