-- ==== Sys2Proof/Machine/State.lean ====
section
/-! DEFINITION. The state of one block (10 R20), the answers its output ports give (30 R63, R77), why a step can
stop, and instantiation (70 R220). -/

namespace Sys2Proof.Machine

/-- The report buffer `buf[0..5]`: six independent bytes (20 R43, R46). -/
structure ReportBuf where
  b0 : Byte
  b1 : Byte
  b2 : Byte
  b3 : Byte
  b4 : Byte
  b5 : Byte
  deriving DecidableEq, Repr

/-- One answer on an output port: a command's response (30 R63) or a function unit's output (R77). -/
inductive Response where
  /-- `GET`: a normalized value (R72). -/
  | value (v : Value)
  /-- `REPORT`: `len` and `buf[0..5]` (R63). -/
  | report (len : Int) (buf : ReportBuf)
  /-- `SAVE`: the snapshot's two bytes, power then brake (R70). -/
  | snapshot (power brake : Byte)
  /-- `HATENC`: `code[3:0]`. -/
  | hatCode (code : BitVec 4)
  /-- `QUANT`: `out[7:0]`. -/
  | notch (out : Byte)
  /-- `REMAP`: `wire[7:0]`. -/
  | wire (out : Byte)
  /-- `SER`: `buf[0..5]` and the count. -/
  | serialized (buf : ReportBuf) (count : Nat)
  deriving DecidableEq, Repr

/-- The block has no fault that halts it: its one error, `UnsupportedVariant`, is a returned value after which the
block goes on (60 R203, R208). No constructor, so no step can fault. -/
inductive Fault where
  deriving DecidableEq, Repr

/-- Why a step has no meaning. Each is safe: the model claims nothing where the spec gives no effect. -/
inductive Refusal where
  /-- An arm of `exec` without a meaning raises it; no arm does. Safe. -/
  | notModelled (mnemonic : String)
  /-- Raised by a header byte with `op` in `0x6` to `0xF`, "invalid" (30 R74, 93 U14). Safe. -/
  | reservedCommand (header : Byte)
  /-- Raised by a step whose input ends inside a command: no short form is a command (20 R47). Safe. -/
  | incompleteCommand
  /-- Raised by a step that finds an item of the wrong kind: a value where a byte belongs or the other way round
  (30 R61). Safe. -/
  | malformedCommand
  deriving DecidableEq, Repr

/-- The state of one instance (10 R20), then the parameters the spec lets a model take as arguments (00 R8), then
the model's own bookkeeping (log 3, log 4, log 14). The notch ROMs are constants (Machine/NotchTables.lean, log 7). -/
structure State where
  /-- `S.power`, the raw power lever (R21). -/
  power : Byte
  /-- `S.brake`, the raw brake lever (R22). -/
  brake : Byte
  /-- `S.hatUp` (R23). -/
  hatUp : Bool
  /-- `S.hatDown` (R23). -/
  hatDown : Bool
  /-- `S.hatLeft` (R23). -/
  hatLeft : Bool
  /-- `S.hatRight` (R23). -/
  hatRight : Bool
  /-- `S.hatSwitch`, the derived compass code (R24, R25, R35). -/
  hatSwitch : Byte
  /-- `S.buttons`, one bit for each logical button (R26, R27). -/
  buttons : Byte
  /-- The strap `MODEL` (R29). -/
  model : Model
  /-- The parameter `ROUND_TIES` (00 R8, R12). -/
  roundTies : RoundTies
  /-- The parameter `AB_ORDER` (00 R8, 10 R27). -/
  abOrder : AbOrder
  /-- The MODEL's own: how many free report buffers have been drawn (log 3). -/
  freeDraws : Nat
  /-- The MODEL's own: what the host has presented and the block has not yet taken, first item first (10 R33, R36,
  log 4). -/
  input : List PortItem
  /-- The MODEL's own: the responses collected so far, oldest first (70 R225, log 14). -/
  responses : List Response
  deriving DecidableEq, Repr

/-- The machine right after instantiation as model `m`: every field zero (70 R220), the parameters at the spec's
values (00 R8), nothing presented and nothing answered. -/
def State.instantiate (m : Model) : State where
  power := 0
  brake := 0
  hatUp := false
  hatDown := false
  hatLeft := false
  hatRight := false
  hatSwitch := 0
  buttons := 0
  model := m
  roundTies := .halfAway
  abOrder := .bLow
  freeDraws := 0
  input := []
  responses := []

/-- The machine after its power-on. The host chooses `MODEL` (10 R29) and the spec gives it no value: `Type2` is a
DESIGN CHOICE (log 1), and statements speak of `State.instantiate m` for every `m`. -/
def State.reset : State := State.instantiate .type2

end Sys2Proof.Machine
end

