-- ==== Sys2Proof/Machine/Serializer.lean ====
section
/-! DEFINITION. The report serializer in its two forms (43 R131, R132; layouts 30 R68, R69). There is none for
`Ryojouhen` (R143). -/

namespace Sys2Proof.Machine

/-- The reserved constant of both layouts, never derived from live state (43 R133). -/
def reservedByte : Byte := 0xFF

/-- The hat byte of a report: the low nibble (43 R135). -/
def hatByte (hat : Byte) : Byte := hat &&& 0x0F

/-- The byte count both forms return (43 R136). -/
def reportCount : Nat := 6

/-- `SER_T2(brake, power, hat, buttons)` (43 R131). -/
def serT2 (brake power hat buttons : Byte) : ReportBuf where
  b0 := 0x01
  b1 := quant .t2b brake
  b2 := quant .t2p power
  b3 := reservedByte
  b4 := hatByte hat
  b5 := remapT2 buttons

/-- `SER_SK(brake, power, hat, buttons)` (43 R132). -/
def serSK (brake power hat buttons : Byte) : ReportBuf where
  b0 := quant .skb brake
  b1 := quant .skp power
  b2 := reservedByte
  b3 := hatByte hat
  b4 := remapSK buttons
  b5 := 0x00

end Sys2Proof.Machine
end

