-- ==== Sys2Proof/Machine/Ops.lean ====
section
/-! DEFINITION. The named operations over the registers and the ports: every meaning reads and writes the state
through these. -/

namespace Sys2Proof.Machine

/-! ### Instantiation -/

/-- The machine instantiated with a strap code (30 R66, 70 R220). -/
def State.powerOn (strap : BitVec 2) : State := State.instantiate (modelOfStrap strap)

/-! ### Levers -/

/-- `S.power <- b` (10 R21). -/
def State.writePower (s : State) (b : Byte) : State := { s with power := b }

/-- `S.brake <- b` (10 R22). -/
def State.writeBrake (s : State) (b : Byte) : State := { s with brake := b }

/-! ### Hat flags and the hat recomputation -/

/-- `S.hatUp <- f` (10 R23). -/
def State.writeHatUp (s : State) (f : Bool) : State := { s with hatUp := f }

/-- `S.hatDown <- f` (10 R23). -/
def State.writeHatDown (s : State) (f : Bool) : State := { s with hatDown := f }

/-- `S.hatLeft <- f` (10 R23). -/
def State.writeHatLeft (s : State) (f : Bool) : State := { s with hatLeft := f }

/-- `S.hatRight <- f` (10 R23). -/
def State.writeHatRight (s : State) (f : Bool) : State := { s with hatRight := f }

/-- The compass code of the current flags, as the byte `S.hatSwitch` holds (40 R90). -/
def State.hatCode (s : State) : Byte := (hatenc s.hatUp s.hatDown s.hatLeft s.hatRight).setWidth 8

/-- `UpdateHat`: `S.hatSwitch <- HATENC` of the four flags (44 R152). -/
def State.updateHat (s : State) : State := { s with hatSwitch := s.hatCode }

/-! ### Buttons -/

/-- The bit of a button (10 R27). -/
def State.readButton (s : State) (button : Button) : Bool := s.buttons.getLsbD (buttonBit s.abOrder button)

/-- Set or clear a button's bit, the other seven kept (44 R174 to R179). -/
def State.writeButton (s : State) (button : Button) (on : Bool) : State :=
  { s with buttons :=
      if on then s.buttons ||| buttonMask s.abOrder button else s.buttons &&& ~~~(buttonMask s.abOrder button) }

/-! ### Responses -/

/-- Answer on an output port (30 R63, R77). -/
def State.respond (s : State) (r : Response) : State := { s with responses := s.responses ++ [r] }

/-- The buffer after a failing `REPORT`: six free bytes, a fresh draw each time (60 R206, D12). -/
def freeReportBuf (draw : Nat) : ReportBuf where
  b0 := Config.freeReportByte draw 0
  b1 := Config.freeReportByte draw 1
  b2 := Config.freeReportByte draw 2
  b3 := Config.freeReportByte draw 3
  b4 := Config.freeReportByte draw 4
  b5 := Config.freeReportByte draw 5

/-- `raise UnsupportedVariant`, the block's one error: the response is `ERR_IOERROR` and a buffer of any value;
nothing is saved, no mode changes, nothing is latched and control goes nowhere (60 R201, R206). There is no return
from it, and none is needed (R207). -/
def State.raiseUnsupportedVariant (s : State) : State :=
  { s with
    freeDraws := s.freeDraws + 1
    responses := s.responses ++ [.report Config.errIoError (freeReportBuf s.freeDraws)] }

/-! ### The input port -/

/-- Take the next instruction off the input: it, and the state without its items (20 R49, R51). -/
def State.fetch (s : State) : Except DecodeError (Instr × State) :=
  match decode s.input with
  | .ok (i, rest) => .ok (i, { s with input := rest })
  | .error e => .error e

/-- A step when no instruction could be taken. With nothing presented the block waits and nothing changes (70 R225);
items that spell no command are refused by name (30 R74, 20 R47). -/
def State.noInstruction (s : State) (e : DecodeError) : Host.Outcome State Fault Refusal :=
  match e with
  | .noInput => .next s
  | .reservedHeader h => .refused (.reservedCommand h)
  | .missingOperand => .refused .incompleteCommand
  | .misplacedItem => .refused .malformedCommand

end Sys2Proof.Machine
end

