-- ==== Sys2Proof/Machine/Get.lean ====
section
/-! DEFINITION. `GET`: read a binding (44 R155 to R167). No `GET` changes any state; its response is all it does. -/

namespace Sys2Proof.Machine

/-- `GET Power`: `FromRaw(S.power)` (44 R155). -/
def execGetPower (s : State) : Host.Outcome State Fault Refusal :=
  .next (s.respond (.value (fromRaw s.power)))

/-- `GET Brake`: `FromRaw(S.brake)` (44 R156). -/
def execGetBrake (s : State) : Host.Outcome State Fault Refusal :=
  .next (s.respond (.value (fromRaw s.brake)))

/-- `GET HatUp`: `FromBool(S.hatUp)` (44 R157). -/
def execGetHatUp (s : State) : Host.Outcome State Fault Refusal :=
  .next (s.respond (.value (fromBool s.hatUp)))

/-- `GET HatRight`: `FromBool(S.hatRight)` (44 R158). -/
def execGetHatRight (s : State) : Host.Outcome State Fault Refusal :=
  .next (s.respond (.value (fromBool s.hatRight)))

/-- `GET HatDown`: `FromBool(S.hatDown)` (44 R159). -/
def execGetHatDown (s : State) : Host.Outcome State Fault Refusal :=
  .next (s.respond (.value (fromBool s.hatDown)))

/-- `GET HatLeft`: `FromBool(S.hatLeft)` (44 R160). -/
def execGetHatLeft (s : State) : Host.Outcome State Fault Refusal :=
  .next (s.respond (.value (fromBool s.hatLeft)))

/-- `GET ButtonB`: `FromBit` of the bit of button B (44 R161). -/
def execGetButtonB (s : State) : Host.Outcome State Fault Refusal :=
  .next (s.respond (.value (fromBit (s.readButton .b))))

/-- `GET ButtonA`: `FromBit` of the bit of button A (44 R162). -/
def execGetButtonA (s : State) : Host.Outcome State Fault Refusal :=
  .next (s.respond (.value (fromBit (s.readButton .a))))

/-- `GET ButtonC`: `FromBit` of the bit of button C (44 R163). -/
def execGetButtonC (s : State) : Host.Outcome State Fault Refusal :=
  .next (s.respond (.value (fromBit (s.readButton .c))))

/-- `GET ButtonD`: `FromBit` of the bit of button D (44 R164). -/
def execGetButtonD (s : State) : Host.Outcome State Fault Refusal :=
  .next (s.respond (.value (fromBit (s.readButton .d))))

/-- `GET Select`: `FromBit` of the bit of Select (44 R165). -/
def execGetSelect (s : State) : Host.Outcome State Fault Refusal :=
  .next (s.respond (.value (fromBit (s.readButton .select))))

/-- `GET Start`: `FromBit` of the bit of Start (44 R166). -/
def execGetStart (s : State) : Host.Outcome State Fault Refusal :=
  .next (s.respond (.value (fromBit (s.readButton .start))))

/-- `GET` of an unknown index: 0, whatever the index; it is not an error (44 R167, 60 R202). -/
def execGetUnknown (_idx : Nat) (s : State) : Host.Outcome State Fault Refusal :=
  .next (s.respond (.value 0))

end Sys2Proof.Machine
end

