-- ==== Sys2Proof/Machine/Levers.lean ====
section
/-! DEFINITION. `RESET`, `SAVE`, `LOAD`: the commands over the two lever bytes (44 R181 to R183). -/

namespace Sys2Proof.Machine

/-- `RESET`: power and brake to 0 and nothing else; hat flags, `S.hatSwitch` and buttons keep their values
(44 R181, 70 R222). -/
def execReset (s : State) : Host.Outcome State Fault Refusal :=
  .next ((s.writePower 0).writeBrake 0)

/-- `SAVE`: the response is the two raw bytes, power then brake; nothing is written (44 R182, 30 R70). -/
def execSave (s : State) : Host.Outcome State Fault Refusal :=
  .next (s.respond (.snapshot s.power s.brake))

/-- `LOAD p, b`: the two lever bytes and nothing else; no `UpdateHat` (44 R183). -/
def execLoad (p b : Byte) (s : State) : Host.Outcome State Fault Refusal :=
  .next ((s.writePower p).writeBrake b)

end Sys2Proof.Machine
end

