-- ==== Sys2Proof/Machine/Report.lean ====
section
/-! DEFINITION. `REPORT` and its three forms by `MODEL` (43 R140 to R143). -/

namespace Sys2Proof.Machine

/-- Respond as a Type2 instance: length 6 and the Type2 report of the state (43 R141). -/
def State.respondType2 (s : State) : State :=
  s.respond (.report reportCount (serT2 s.brake s.power s.hatSwitch s.buttons))

/-- Respond as a Shinkansen instance: length 6 and the Shinkansen report of the state (43 R142). -/
def State.respondShinkansen (s : State) : State :=
  s.respond (.report reportCount (serSK s.brake s.power s.hatSwitch s.buttons))

/-- The dispatch of `REPORT` on `MODEL` (43 R140). -/
def State.respondByModel (s : State) : State :=
  match s.model with
  | .type2 => s.respondType2
  | .shinkansen => s.respondShinkansen
  | .ryojouhen => s.raiseUnsupportedVariant

/-- `REPORT`: first the hat recomputation, for every `MODEL`; then the dispatch (43 R140, 60 R205). -/
def execReport (s : State) : Host.Outcome State Fault Refusal :=
  .next s.updateHat.respondByModel

/-- `REPORT` at an instance with `MODEL = Type2` (43 R141). The strap is not in the command word: elsewhere the same
word is that instance's own `REPORT` (log 5). -/
def execReportType2 (s : State) : Host.Outcome State Fault Refusal :=
  if s.model = .type2 then .next s.updateHat.respondType2 else .next s.updateHat.respondByModel

/-- `REPORT` at an instance with `MODEL = Shinkansen` (43 R142); elsewhere that instance's own `REPORT` (log 5). -/
def execReportShinkansen (s : State) : Host.Outcome State Fault Refusal :=
  if s.model = .shinkansen then .next s.updateHat.respondShinkansen else .next s.updateHat.respondByModel

/-- `REPORT` at an instance with `MODEL = Ryojouhen`: `UnsupportedVariant`, after the hat recomputation
(43 R143, 60 R201); elsewhere that instance's own `REPORT` (log 5). -/
def execReportRyojouhen (s : State) : Host.Outcome State Fault Refusal :=
  if s.model = .ryojouhen then .next s.updateHat.raiseUnsupportedVariant else .next s.updateHat.respondByModel

/-- The row `(reserved)`: the header spells no command, so there is no step (30 R74, 93 U14). -/
def execReserved (header : Byte) (_s : State) : Host.Outcome State Fault Refusal :=
  .refused (.reservedCommand header)

end Sys2Proof.Machine
end

