-- ==== Sys2Proof/Machine/Set.lean ====
section
/-! DEFINITION. `SET`: write a binding (44 R168 to R180). No `SET` has a response; a hat `SET` ends by `UpdateHat`. -/

namespace Sys2Proof.Machine

/-- `SET Power, v`: `S.power <- ToRaw(v)` (44 R168). -/
def execSetPower (v : Value) (s : State) : Host.Outcome State Fault Refusal :=
  .next (s.writePower (toRaw s.roundTies v))

/-- `SET Brake, v`: `S.brake <- ToRaw(v)` (44 R169). -/
def execSetBrake (v : Value) (s : State) : Host.Outcome State Fault Refusal :=
  .next (s.writeBrake (toRaw s.roundTies v))

/-- `SET HatUp, v`: `S.hatUp <- ToFlag(v)`, then `UpdateHat` (44 R170). -/
def execSetHatUp (v : Value) (s : State) : Host.Outcome State Fault Refusal :=
  .next ((s.writeHatUp (toFlag s.roundTies v)).updateHat)

/-- `SET HatRight, v`: `S.hatRight <- ToFlag(v)`, then `UpdateHat` (44 R171). -/
def execSetHatRight (v : Value) (s : State) : Host.Outcome State Fault Refusal :=
  .next ((s.writeHatRight (toFlag s.roundTies v)).updateHat)

/-- `SET HatDown, v`: `S.hatDown <- ToFlag(v)`, then `UpdateHat` (44 R172). -/
def execSetHatDown (v : Value) (s : State) : Host.Outcome State Fault Refusal :=
  .next ((s.writeHatDown (toFlag s.roundTies v)).updateHat)

/-- `SET HatLeft, v`: `S.hatLeft <- ToFlag(v)`, then `UpdateHat` (44 R173). -/
def execSetHatLeft (v : Value) (s : State) : Host.Outcome State Fault Refusal :=
  .next ((s.writeHatLeft (toFlag s.roundTies v)).updateHat)

/-- `SET ButtonB, v`: the bit of button B becomes `ToBit(v)` (44 R174). -/
def execSetButtonB (v : Value) (s : State) : Host.Outcome State Fault Refusal :=
  .next (s.writeButton .b (toBit v))

/-- `SET ButtonA, v`: the bit of button A becomes `ToBit(v)` (44 R175). -/
def execSetButtonA (v : Value) (s : State) : Host.Outcome State Fault Refusal :=
  .next (s.writeButton .a (toBit v))

/-- `SET ButtonC, v`: the bit of button C becomes `ToBit(v)` (44 R176). -/
def execSetButtonC (v : Value) (s : State) : Host.Outcome State Fault Refusal :=
  .next (s.writeButton .c (toBit v))

/-- `SET ButtonD, v`: the bit of button D becomes `ToBit(v)` (44 R177). -/
def execSetButtonD (v : Value) (s : State) : Host.Outcome State Fault Refusal :=
  .next (s.writeButton .d (toBit v))

/-- `SET Select, v`: the bit of Select becomes `ToBit(v)` (44 R178). -/
def execSetSelect (v : Value) (s : State) : Host.Outcome State Fault Refusal :=
  .next (s.writeButton .select (toBit v))

/-- `SET Start, v`: the bit of Start becomes `ToBit(v)` (44 R179). -/
def execSetStart (v : Value) (s : State) : Host.Outcome State Fault Refusal :=
  .next (s.writeButton .start (toBit v))

/-- `SET` of an unknown index: nothing changes, whatever the value; it is not an error (44 R180, 60 R202). -/
def execSetUnknown (_idx : Nat) (_v : Value) (s : State) : Host.Outcome State Fault Refusal :=
  .next s

end Sys2Proof.Machine
end

