-- ==== Sys2Proof/Machine/UnitPorts.lean ====
section
/-! DEFINITION. The function units evaluated at their own ports (30 R77): combinational, so the output is all there is
and the registers keep their values (40 R90, 41 R100, 42 R120, 43 R130; log 6). -/

namespace Sys2Proof.Machine

/-- `HATENC`: the compass code of the four inputs (40 R91). -/
def execHatenc (up down left right : Bool) (s : State) : Host.Outcome State Fault Refusal :=
  .next (s.respond (.hatCode (hatenc up down left right)))

/-- `QUANT.T2P`: the lookup in table `T2P` (41 R102, R103). -/
def execQuantT2P (x : Byte) (s : State) : Host.Outcome State Fault Refusal :=
  .next (s.respond (.notch (quant .t2p x)))

/-- `QUANT.T2B`: the lookup in table `T2B` (41 R102, R104). -/
def execQuantT2B (x : Byte) (s : State) : Host.Outcome State Fault Refusal :=
  .next (s.respond (.notch (quant .t2b x)))

/-- `QUANT.SKP`: the lookup in table `SKP` (41 R102, R105). -/
def execQuantSKP (x : Byte) (s : State) : Host.Outcome State Fault Refusal :=
  .next (s.respond (.notch (quant .skp x)))

/-- `QUANT.SKB`: the lookup in table `SKB` (41 R102, R106). -/
def execQuantSKB (x : Byte) (s : State) : Host.Outcome State Fault Refusal :=
  .next (s.respond (.notch (quant .skb x)))

/-- `REMAP.T2` (42 R121). -/
def execRemapT2 (b : Byte) (s : State) : Host.Outcome State Fault Refusal :=
  .next (s.respond (.wire (remapT2 b)))

/-- `REMAP.SK` (42 R122). -/
def execRemapSK (b : Byte) (s : State) : Host.Outcome State Fault Refusal :=
  .next (s.respond (.wire (remapSK b)))

/-- `SER.T2`: six bytes and the count (43 R131, R136). -/
def execSerT2 (brake power hat buttons : Byte) (s : State) : Host.Outcome State Fault Refusal :=
  .next (s.respond (.serialized (serT2 brake power hat buttons) reportCount))

/-- `SER.SK`: six bytes and the count (43 R132, R136). -/
def execSerSK (brake power hat buttons : Byte) (s : State) : Host.Outcome State Fault Refusal :=
  .next (s.respond (.serialized (serSK brake power hat buttons) reportCount))

end Sys2Proof.Machine
end

