-- ==== Sys2Proof/Machine/Dispatch.lean ====
section
/-! DEFINITION. One arm for each instruction. -/

namespace Sys2Proof.Machine

def exec (i : Instr) (s : State) : Host.Outcome State Fault Refusal :=
  match i with
  | .getPower => Sys2Proof.Machine.execGetPower s
  | .getBrake => Sys2Proof.Machine.execGetBrake s
  | .getHatUp => Sys2Proof.Machine.execGetHatUp s
  | .getHatRight => Sys2Proof.Machine.execGetHatRight s
  | .getHatDown => Sys2Proof.Machine.execGetHatDown s
  | .getHatLeft => Sys2Proof.Machine.execGetHatLeft s
  | .getButtonB => Sys2Proof.Machine.execGetButtonB s
  | .getButtonA => Sys2Proof.Machine.execGetButtonA s
  | .getButtonC => Sys2Proof.Machine.execGetButtonC s
  | .getButtonD => Sys2Proof.Machine.execGetButtonD s
  | .getSelect => Sys2Proof.Machine.execGetSelect s
  | .getStart => Sys2Proof.Machine.execGetStart s
  | .getUnknown idx => Sys2Proof.Machine.execGetUnknown idx s
  | .setPower v => Sys2Proof.Machine.execSetPower v s
  | .setBrake v => Sys2Proof.Machine.execSetBrake v s
  | .setHatUp v => Sys2Proof.Machine.execSetHatUp v s
  | .setHatRight v => Sys2Proof.Machine.execSetHatRight v s
  | .setHatDown v => Sys2Proof.Machine.execSetHatDown v s
  | .setHatLeft v => Sys2Proof.Machine.execSetHatLeft v s
  | .setButtonB v => Sys2Proof.Machine.execSetButtonB v s
  | .setButtonA v => Sys2Proof.Machine.execSetButtonA v s
  | .setButtonC v => Sys2Proof.Machine.execSetButtonC v s
  | .setButtonD v => Sys2Proof.Machine.execSetButtonD v s
  | .setSelect v => Sys2Proof.Machine.execSetSelect v s
  | .setStart v => Sys2Proof.Machine.execSetStart v s
  | .setUnknown idx v => Sys2Proof.Machine.execSetUnknown idx v s
  | .reset => Sys2Proof.Machine.execReset s
  | .report => Sys2Proof.Machine.execReport s
  | .save => Sys2Proof.Machine.execSave s
  | .load p b => Sys2Proof.Machine.execLoad p b s
  | .reportType2 => Sys2Proof.Machine.execReportType2 s
  | .reportShinkansen => Sys2Proof.Machine.execReportShinkansen s
  | .reportRyojouhen => Sys2Proof.Machine.execReportRyojouhen s
  | .reserved header => Sys2Proof.Machine.execReserved header s
  | .hatenc up down left right => Sys2Proof.Machine.execHatenc up down left right s
  | .quantT2P x => Sys2Proof.Machine.execQuantT2P x s
  | .quantT2B x => Sys2Proof.Machine.execQuantT2B x s
  | .quantSKP x => Sys2Proof.Machine.execQuantSKP x s
  | .quantSKB x => Sys2Proof.Machine.execQuantSKB x s
  | .remapT2 b => Sys2Proof.Machine.execRemapT2 b s
  | .remapSK b => Sys2Proof.Machine.execRemapSK b s
  | .serT2 brake power hat buttons => Sys2Proof.Machine.execSerT2 brake power hat buttons s
  | .serSK brake power hat buttons => Sys2Proof.Machine.execSerSK brake power hat buttons s

end Sys2Proof.Machine
end

