-- ==== Sys2Proof/Machine/Step.lean ====
section
/-! DEFINITION. One step of the block: one command, or one evaluation of a function unit (00 R7, 20 R49). -/

namespace Sys2Proof.Machine

/-- Take the next instruction the host has presented and run it whole. -/
def step (s : State) : Host.Outcome State Fault Refusal :=
  match s.fetch with
  | .ok (i, t) => exec i t
  | .error e => s.noInstruction e

/-- Present a row's word to the block, in front of whatever else the host has presented: the next step takes it. -/
def State.withFetchWord (s : State) (nbits w : Nat) : State := { s with input := tableItems nbits w ++ s.input }

end Sys2Proof.Machine
end

