-- ==== Sys2Proof/Safety.lean ====
section
/-! DEFINITION. The terms claims use: the invariant of the registers, running a list of instructions, and which
instruction writes which control. -/

namespace Sys2Proof

/-- The instruction writes the control that binding index `idx` names (30 R64, 10 R20). -/
def Instr.writesBinding (i : Instr) (idx : Nat) : Bool :=
  match i with
  | .setPower _ => idx == 0
  | .setBrake _ => idx == 1
  | .setHatUp _ => idx == 2
  | .setHatRight _ => idx == 3
  | .setHatDown _ => idx == 4
  | .setHatLeft _ => idx == 5
  | .setButtonB _ => idx == 6
  | .setButtonA _ => idx == 7
  | .setButtonC _ => idx == 8
  | .setButtonD _ => idx == 9
  | .setSelect _ => idx == 10
  | .setStart _ => idx == 11
  | .reset | .load _ _ => idx == 0 || idx == 1
  | .setUnknown _ _ | .getUnknown _ | .reserved _ => false
  | .getPower | .getBrake | .getHatUp | .getHatRight | .getHatDown | .getHatLeft | .getButtonB | .getButtonA
  | .getButtonC | .getButtonD | .getSelect | .getStart => false
  | .report | .save | .reportType2 | .reportShinkansen | .reportRyojouhen => false
  | .hatenc _ _ _ _ | .quantT2P _ | .quantT2B _ | .quantSKP _ | .quantSKB _ | .remapT2 _ | .remapSK _
  | .serT2 _ _ _ _ | .serSK _ _ _ _ => false

end Sys2Proof

namespace Sys2Proof.Machine

/-- The hat code is the encoder's output for the current flags, or still the instantiation value 0 with no flag ever
set (10 R25, R35, 70 R221). -/
abbrev State.HatFresh (s : State) : Prop :=
  s.hatSwitch = s.hatCode ∨
    (s.hatSwitch = 0 ∧ s.hatUp = false ∧ s.hatDown = false ∧ s.hatLeft = false ∧ s.hatRight = false)

/-- What every reachable state has: bits 7:6 of `S.buttons` are 0 (10 R28), `S.hatSwitch` is a compass code (10 R20,
30 R67), and it is fresh (10 R25). -/
abbrev State.Inv (s : State) : Prop :=
  s.buttons &&& 0xC0 = 0 ∧ s.hatSwitch.toNat ≤ 8 ∧ s.HatFresh

/-- Run a list of instructions first to last (10 R33), stopping where one does. -/
def runInstrs : List Instr → State → Host.Outcome State Fault Refusal
  | [], s => .next s
  | i :: is, s =>
    match exec i s with
    | .next t => runInstrs is t
    | .fault r => .fault r
    | .refused r => .refused r

/-- The port items of a list of instructions, one after the other (20 R51). -/
def encodeAll (is : List Instr) : List PortItem := is.flatMap encode

/-- Two states agree but for the hidden field `S.hatSwitch` (10 R35). -/
def State.SameButHat (s t : State) : Prop := t = { s with hatSwitch := t.hatSwitch }

end Sys2Proof.Machine
end

