-- ==== Sys2Proof/Certificates/Slice0/Obligations.lean ====
section
/-! DEFINITION. The statements for the provers. "Answers" is `exec … = .next …`: the next state is written out whole,
so what a statement does not name is unchanged, the input and the earlier responses included. -/

open Sys2Proof Sys2Proof.Machine

/-! ### Instantiation -/

/-- 70 R220: every field is zero after instantiation, `MODEL` is what the host chose and no step changes it, and the
ROMs hold the constants of 41 R103 to R106. -/
def Obligations.InstantiationZeroesEveryField : Prop :=
  (∀ m : Model,
    (State.instantiate m).power = 0x00 ∧ (State.instantiate m).brake = 0x00 ∧
    (State.instantiate m).hatUp = false ∧ (State.instantiate m).hatDown = false ∧
    (State.instantiate m).hatLeft = false ∧ (State.instantiate m).hatRight = false ∧
    (State.instantiate m).hatSwitch = 0x00 ∧ (State.instantiate m).buttons = 0x00 ∧
    (State.instantiate m).model = m) ∧
  (∀ s t : State, step s = .next t → t.model = s.model) ∧
  romPairs .t2p = [(0xF8, 0x00), (0xC8, 0x21), (0x98, 0x3F), (0x58, 0x54), (0x28, 0x6D), (0x00, 0x81)] ∧
  romPairs .t2b = [(0xF8, 0xB9), (0xE6, 0xB5), (0xCA, 0xB2), (0xAE, 0xAF), (0x92, 0xA8), (0x76, 0xA2), (0x5A, 0x9A),
    (0x3E, 0x94), (0x22, 0x8A), (0x00, 0x79)] ∧
  romPairs .skp = [(0xF7, 0xFB), (0xE4, 0xE9), (0xD1, 0xD7), (0xBE, 0xC6), (0xAB, 0xB4), (0x98, 0xA2), (0x85, 0x90),
    (0x72, 0x7E), (0x5F, 0x6C), (0x4C, 0x5A), (0x39, 0x48), (0x26, 0x36), (0x13, 0x24), (0x00, 0x12)] ∧
  romPairs .skb = [(0xF8, 0xFB), (0xCA, 0xDF), (0xAE, 0xC3), (0x92, 0xA7), (0x76, 0x8B), (0x5A, 0x70), (0x3E, 0x54),
    (0x22, 0x38), (0x00, 0x1C)]

/-- 70 R224: the first report of a fresh instance of each model, and its lever bytes again after `RESET`. -/
def Obligations.FirstReportOfAFreshInstance : Prop :=
  exec .report (State.instantiate .type2) = .next { State.instantiate .type2 with
    hatSwitch := 8, responses := [.report 6 ⟨0x01, 0x79, 0x81, 0xFF, 0x08, 0x00⟩] } ∧
  exec .report (State.instantiate .shinkansen) = .next { State.instantiate .shinkansen with
    hatSwitch := 8, responses := [.report 6 ⟨0x1C, 0x12, 0xFF, 0x08, 0x00, 0x00⟩] } ∧
  (∃ buf draws, exec .report (State.instantiate .ryojouhen) = .next { State.instantiate .ryojouhen with
    hatSwitch := 8, freeDraws := draws, responses := [.report Config.errIoError buf] }) ∧
  (∀ s : State, s.model = .type2 → ∃ t hat buttons, runInstrs [.reset, .report] s = .next t ∧
    t.responses = s.responses ++ [.report 6 ⟨0x01, 0x79, 0x81, 0xFF, hat, buttons⟩]) ∧
  (∀ s : State, s.model = .shinkansen → ∃ t hat buttons, runInstrs [.reset, .report] s = .next t ∧
    t.responses = s.responses ++ [.report 6 ⟨0x1C, 0x12, 0xFF, hat, buttons, 0x00⟩])

/-- 95 E1, E2: the document's two scenarios, Scenario A in both corrected forms (90 C3), whatever the hat code was. -/
def Obligations.TheTwoScenarios : Prop :=
  ∀ hat : Byte,
    (∃ t, exec .report { State.instantiate .type2 with power := 0xFF, hatSwitch := hat } = .next t ∧
      t.responses = [.report 6 ⟨0x01, 0x79, 0x00, 0xFF, 0x08, 0x00⟩]) ∧
    (∀ p : Byte, p.toNat ≤ 0x27 →
      ∃ t, exec .report { State.instantiate .type2 with power := p, hatSwitch := hat } = .next t ∧
        t.responses = [.report 6 ⟨0x01, 0x79, 0x81, 0xFF, 0x08, 0x00⟩]) ∧
    (∃ t, exec .report { State.instantiate .shinkansen with
        brake := 0xFF, buttons := 0x02, hatUp := true, hatSwitch := hat } = .next t ∧
      t.responses = [.report 6 ⟨0xFB, 0x12, 0xFF, 0x00, 0x08, 0x00⟩])

/-! ### GET -/

/-- 44 R155, R156: `GET` of an axis responds `raw/255` and changes nothing. -/
def Obligations.GetAxisRespondsRawOver255 : Prop :=
  ∀ (s : State) (rest : List PortItem),
    (decode (.byte 0x00 :: rest) = .ok (.getPower, rest) ∧
      exec .getPower s = .next { s with responses := s.responses ++ [.value ((s.power.toNat : Rat) / 255)] }) ∧
    (decode (.byte 0x01 :: rest) = .ok (.getBrake, rest) ∧
      exec .getBrake s = .next { s with responses := s.responses ++ [.value ((s.brake.toNat : Rat) / 255)] })

/-- 44 R157 to R160: `GET` of a hat flag responds the flag as 0 or 1 and changes nothing. -/
def Obligations.GetHatFlagRespondsTheFlag : Prop :=
  ∀ (s : State) (rest : List PortItem),
    (decode (.byte 0x02 :: rest) = .ok (.getHatUp, rest) ∧
      exec .getHatUp s = .next { s with responses := s.responses ++ [.value (if s.hatUp then 1 else 0)] }) ∧
    (decode (.byte 0x03 :: rest) = .ok (.getHatRight, rest) ∧
      exec .getHatRight s = .next { s with responses := s.responses ++ [.value (if s.hatRight then 1 else 0)] }) ∧
    (decode (.byte 0x04 :: rest) = .ok (.getHatDown, rest) ∧
      exec .getHatDown s = .next { s with responses := s.responses ++ [.value (if s.hatDown then 1 else 0)] }) ∧
    (decode (.byte 0x05 :: rest) = .ok (.getHatLeft, rest) ∧
      exec .getHatLeft s = .next { s with responses := s.responses ++ [.value (if s.hatLeft then 1 else 0)] })

/-- 44 R161 to R166: `GET` of a button responds its bit as 0 or 1 and changes nothing; `AB_ORDER = A_LOW` exchanges
bits 0 and 1 (10 R27). -/
def Obligations.GetButtonRespondsItsBit : Prop :=
  ∀ (s : State) (rest : List PortItem),
    (decode (.byte 0x06 :: rest) = .ok (.getButtonB, rest) ∧
      exec .getButtonB s = .next { s with responses := s.responses ++
        [.value (if s.buttons &&& (if s.abOrder = .bLow then 0x01 else 0x02) = 0 then 0 else 1)] }) ∧
    (decode (.byte 0x07 :: rest) = .ok (.getButtonA, rest) ∧
      exec .getButtonA s = .next { s with responses := s.responses ++
        [.value (if s.buttons &&& (if s.abOrder = .bLow then 0x02 else 0x01) = 0 then 0 else 1)] }) ∧
    (decode (.byte 0x08 :: rest) = .ok (.getButtonC, rest) ∧
      exec .getButtonC s = .next { s with responses := s.responses ++
        [.value (if s.buttons &&& 0x04 = 0 then 0 else 1)] }) ∧
    (decode (.byte 0x09 :: rest) = .ok (.getButtonD, rest) ∧
      exec .getButtonD s = .next { s with responses := s.responses ++
        [.value (if s.buttons &&& 0x08 = 0 then 0 else 1)] }) ∧
    (decode (.byte 0x0A :: rest) = .ok (.getSelect, rest) ∧
      exec .getSelect s = .next { s with responses := s.responses ++
        [.value (if s.buttons &&& 0x10 = 0 then 0 else 1)] }) ∧
    (decode (.byte 0x0B :: rest) = .ok (.getStart, rest) ∧
      exec .getStart s = .next { s with responses := s.responses ++
        [.value (if s.buttons &&& 0x20 = 0 then 0 else 1)] })

/-- 44 R167, 30 R73: `GET` of an unknown index responds 0 in any state and changes nothing; headers `0x0C` to `0x0F`
spell it. `SET` of one changes nothing at all (R180), headers `0x1C` to `0x1F`. -/
def Obligations.UnknownIndexReadsZeroAndWritesNothing : Prop :=
  ∀ (idx : Nat) (v : Value) (s : State) (rest : List PortItem), 12 ≤ idx →
    getCommand idx = .getUnknown idx ∧ setCommand idx v = .setUnknown idx v ∧
    exec (.getUnknown idx) s = .next { s with responses := s.responses ++ [.value 0] } ∧
    exec (.setUnknown idx v) s = .next s ∧
    (idx < 16 → decode (.byte (0x00 + BitVec.ofNat 8 idx) :: rest) = .ok (.getUnknown idx, rest) ∧
      decode (.byte (0x10 + BitVec.ofNat 8 idx) :: .value v :: rest) = .ok (.setUnknown idx v, rest))

/-! ### Conversions -/

/-- 00 R12: `round` is the nearest integer, ties by `ROUND_TIES`; after the clamp the two choices differ only at
`v = (2k+1)/510`, `k` in 0 to 254, and for a negative `v` both give 0. -/
def Obligations.RoundGoesToTheNearestInteger : Prop :=
  (∀ (ties : RoundTies) (q : Rat),
    (q - q.floor < 1 / 2 → roundRat ties q = q.floor) ∧
    (1 / 2 < q - q.floor → roundRat ties q = q.floor + 1)) ∧
  (∀ q : Rat, q - q.floor = 1 / 2 →
    (0 ≤ q → roundRat .halfAway q = q.floor + 1) ∧ (q < 0 → roundRat .halfAway q = q.floor) ∧
    (roundRat .halfEven q = q.floor ∨ roundRat .halfEven q = q.floor + 1) ∧ roundRat .halfEven q % 2 = 0) ∧
  (∀ v : Value, toRaw .halfAway v ≠ toRaw .halfEven v → ∃ k : Nat, k ≤ 254 ∧ v = (2 * k + 1 : Rat) / 510) ∧
  (∀ (ties : RoundTies) (v : Value), v < 0 → toRaw ties v = 0)

/-- 30 R71: the three conversions of a `SET` operand, for every rational, which class of binding stores which, and
where the two booleans differ. -/
def Obligations.SetOperandConversions : Prop :=
  (∀ (ties : RoundTies) (v : Value),
    ((toRaw ties v).toNat : Int) = max 0 (min 255 (roundRat ties (v * 255))) ∧
    (toFlag ties v = true ↔ toRaw ties v ≠ 0) ∧
    (toBit v = true ↔ 1 / 2 ≤ v) ∧
    (toFlag .halfAway v = true ↔ 1 / 510 ≤ v) ∧
    (toFlag .halfEven v = true ↔ 1 / 510 < v) ∧
    toFlag ties (3 / 10) = true ∧ toBit (3 / 10) = false) ∧
  ∀ (v : Value) (s : State),
    (∃ t, exec (.setPower v) s = .next t ∧ t.power = toRaw s.roundTies v) ∧
    (∃ t, exec (.setBrake v) s = .next t ∧ t.brake = toRaw s.roundTies v) ∧
    (∃ t, exec (.setHatUp v) s = .next t ∧ t.hatUp = toFlag s.roundTies v) ∧
    (∃ t, exec (.setHatRight v) s = .next t ∧ t.hatRight = toFlag s.roundTies v) ∧
    (∃ t, exec (.setHatDown v) s = .next t ∧ t.hatDown = toFlag s.roundTies v) ∧
    (∃ t, exec (.setHatLeft v) s = .next t ∧ t.hatLeft = toFlag s.roundTies v) ∧
    (∃ t, exec (.setButtonB v) s = .next t ∧ t.readButton .b = toBit v) ∧
    (∃ t, exec (.setButtonA v) s = .next t ∧ t.readButton .a = toBit v) ∧
    (∃ t, exec (.setButtonC v) s = .next t ∧ t.readButton .c = toBit v) ∧
    (∃ t, exec (.setButtonD v) s = .next t ∧ t.readButton .d = toBit v) ∧
    (∃ t, exec (.setSelect v) s = .next t ∧ t.readButton .select = toBit v) ∧
    (∃ t, exec (.setStart v) s = .next t ∧ t.readButton .start = toBit v)

/-! ### SET -/

/-- 44 R168: `SET Power, v` stores `ToRaw(v)` in `S.power` and nothing else, with its corner cases. -/
def Obligations.SetPowerStoresTheRoundedByte : Prop :=
  ∀ (v : Value) (s : State) (rest : List PortItem),
    decode (.byte 0x10 :: .value v :: rest) = .ok (.setPower v, rest) ∧
    exec (.setPower v) s = .next { s with power := toRaw s.roundTies v } ∧
    toRaw s.roundTies v = BitVec.ofInt 8 (max 0 (min 255 (roundRat s.roundTies (v * 255)))) ∧
    (v < 1 / 510 → toRaw s.roundTies v = 0) ∧
    (509 / 510 < v → toRaw s.roundTies v = 255) ∧
    toRaw .halfAway (509 / 510) = 255 ∧ toRaw s.roundTies (1 / 2) = 0x80 ∧
    toRaw .halfAway (1 / 510) = 1 ∧ toRaw .halfEven (1 / 510) = 0 ∧
    toRaw s.roundTies 2 = 255 ∧ toRaw s.roundTies (-3) = 0 ∧ toRaw s.roundTies (1 / 5) = 0x33

/-- 44 R169: `SET Brake, v` stores `ToRaw(v)` in `S.brake` and nothing else, with its corner cases. -/
def Obligations.SetBrakeStoresTheRoundedByte : Prop :=
  ∀ (v : Value) (s : State) (rest : List PortItem),
    decode (.byte 0x11 :: .value v :: rest) = .ok (.setBrake v, rest) ∧
    exec (.setBrake v) s = .next { s with brake := toRaw s.roundTies v } ∧
    toRaw s.roundTies v = BitVec.ofInt 8 (max 0 (min 255 (roundRat s.roundTies (v * 255)))) ∧
    (v < 1 / 510 → toRaw s.roundTies v = 0) ∧
    (509 / 510 < v → toRaw s.roundTies v = 255) ∧
    toRaw .halfAway (509 / 510) = 255 ∧ toRaw s.roundTies (1 / 2) = 0x80 ∧
    toRaw .halfAway (1 / 510) = 1 ∧ toRaw .halfEven (1 / 510) = 0 ∧
    toRaw s.roundTies 2 = 255 ∧ toRaw s.roundTies (-3) = 0 ∧ toRaw s.roundTies 1 = 0xFF

/-- 44 R170 to R173 (with R152 and 10 R25): a hat `SET` writes its flag and then the code of the new flags, and
nothing else; the flag is true from `v = 1/510` up, at `1/510` itself only under `half_away`. -/
def Obligations.SetHatFlagWritesFlagAndCode : Prop :=
  ∀ (v : Value) (s : State) (rest : List PortItem) (f : Bool),
    f = decide (1 / 510 < v ∨ (v = 1 / 510 ∧ s.roundTies = .halfAway)) →
    toFlag s.roundTies v = f ∧
    (decode (.byte 0x12 :: .value v :: rest) = .ok (.setHatUp v, rest) ∧
      exec (.setHatUp v) s = .next { s with
        hatUp := f, hatSwitch := (hatenc f s.hatDown s.hatLeft s.hatRight).setWidth 8 }) ∧
    (decode (.byte 0x13 :: .value v :: rest) = .ok (.setHatRight v, rest) ∧
      exec (.setHatRight v) s = .next { s with
        hatRight := f, hatSwitch := (hatenc s.hatUp s.hatDown s.hatLeft f).setWidth 8 }) ∧
    (decode (.byte 0x14 :: .value v :: rest) = .ok (.setHatDown v, rest) ∧
      exec (.setHatDown v) s = .next { s with
        hatDown := f, hatSwitch := (hatenc s.hatUp f s.hatLeft s.hatRight).setWidth 8 }) ∧
    (decode (.byte 0x15 :: .value v :: rest) = .ok (.setHatLeft v, rest) ∧
      exec (.setHatLeft v) s = .next { s with
        hatLeft := f, hatSwitch := (hatenc s.hatUp s.hatDown f s.hatRight).setWidth 8 })

/-- 44 R174 to R179: a button `SET` sets its bit when `v >= 1/2` and clears it otherwise, the other seven bits kept,
and writes nothing else; `A_LOW` exchanges the masks of R174 and R175. -/
def Obligations.SetButtonWritesItsBit : Prop :=
  ∀ (v : Value) (s : State) (rest : List PortItem),
    (decode (.byte 0x16 :: .value v :: rest) = .ok (.setButtonB v, rest) ∧
      exec (.setButtonB v) s = .next { s with buttons :=
        match s.abOrder with
        | .bLow => if 1 / 2 ≤ v then s.buttons ||| 0x01 else s.buttons &&& 0xFE
        | .aLow => if 1 / 2 ≤ v then s.buttons ||| 0x02 else s.buttons &&& 0xFD }) ∧
    (decode (.byte 0x17 :: .value v :: rest) = .ok (.setButtonA v, rest) ∧
      exec (.setButtonA v) s = .next { s with buttons :=
        match s.abOrder with
        | .bLow => if 1 / 2 ≤ v then s.buttons ||| 0x02 else s.buttons &&& 0xFD
        | .aLow => if 1 / 2 ≤ v then s.buttons ||| 0x01 else s.buttons &&& 0xFE }) ∧
    (decode (.byte 0x18 :: .value v :: rest) = .ok (.setButtonC v, rest) ∧
      exec (.setButtonC v) s = .next { s with buttons :=
        if 1 / 2 ≤ v then s.buttons ||| 0x04 else s.buttons &&& 0xFB }) ∧
    (decode (.byte 0x19 :: .value v :: rest) = .ok (.setButtonD v, rest) ∧
      exec (.setButtonD v) s = .next { s with buttons :=
        if 1 / 2 ≤ v then s.buttons ||| 0x08 else s.buttons &&& 0xF7 }) ∧
    (decode (.byte 0x1A :: .value v :: rest) = .ok (.setSelect v, rest) ∧
      exec (.setSelect v) s = .next { s with buttons :=
        if 1 / 2 ≤ v then s.buttons ||| 0x10 else s.buttons &&& 0xEF }) ∧
    (decode (.byte 0x1B :: .value v :: rest) = .ok (.setStart v, rest) ∧
      exec (.setStart v) s = .next { s with buttons :=
        if 1 / 2 ≤ v then s.buttons ||| 0x20 else s.buttons &&& 0xDF })

/-! ### RESET, SAVE, LOAD -/

/-- 44 R181, 70 R222: `RESET` zeroes power and brake and writes nothing else. -/
def Obligations.ResetZeroesTheLeversOnly : Prop :=
  ∀ (s : State) (rest : List PortItem),
    decode (.byte 0x20 :: rest) = .ok (.reset, rest) ∧ exec .reset s = .next { s with power := 0x00, brake := 0x00 }

/-- 44 R182, R183, 30 R70: `SAVE` responds the two raw lever bytes, power first, and writes nothing; `LOAD` writes
the two and nothing else; a `SAVE` after a `LOAD` gives the loaded bytes back. -/
def Obligations.SaveAndLoadMoveTheTwoLeverBytes : Prop :=
  ∀ (p b : Byte) (s : State) (rest : List PortItem),
    (decode (.byte 0x40 :: rest) = .ok (.save, rest) ∧
      exec .save s = .next { s with responses := s.responses ++ [.snapshot s.power s.brake] }) ∧
    (decode (.byte 0x50 :: .byte p :: .byte b :: rest) = .ok (.load p b, rest) ∧
      exec (.load p b) s = .next { s with power := p, brake := b }) ∧
    runInstrs [.load p b, .save] s =
      .next { s with power := p, brake := b, responses := s.responses ++ [.snapshot p b] }

/-! ### REPORT -/

/-- 43 R141 with R131 (layout 30 R68): at `MODEL = Type2` a `REPORT` recomputes the hat code and responds length 6 and
the Type2 report. -/
def Obligations.ReportOnType2 : Prop :=
  ∀ s : State, s.model = .type2 →
    ∀ t, t = { s with
      hatSwitch := (hatenc s.hatUp s.hatDown s.hatLeft s.hatRight).setWidth 8
      responses := s.responses ++ [.report 6
        ⟨0x01, quant .t2b s.brake, quant .t2p s.power, 0xFF,
          (hatenc s.hatUp s.hatDown s.hatLeft s.hatRight).setWidth 8 &&& 0x0F, s.buttons⟩] } →
    exec .report s = .next t ∧ exec .reportType2 s = .next t

/-- 43 R142 with R132 (layout 30 R69): at `MODEL = Shinkansen` a `REPORT` recomputes the hat code and responds
length 6 and the Shinkansen report. -/
def Obligations.ReportOnShinkansen : Prop :=
  ∀ s : State, s.model = .shinkansen →
    ∀ t, t = { s with
      hatSwitch := (hatenc s.hatUp s.hatDown s.hatLeft s.hatRight).setWidth 8
      responses := s.responses ++ [.report 6
        ⟨quant .skb s.brake, quant .skp s.power, 0xFF,
          (hatenc s.hatUp s.hatDown s.hatLeft s.hatRight).setWidth 8 &&& 0x0F,
          ((s.buttons &&& 0x03) <<< 2) ||| ((((s.buttons &&& 0x04) <<< 1) ||| ((s.buttons &&& 0x08) >>> 1)) >>> 2) |||
            (s.buttons &&& 0x30), 0x00⟩] } →
    exec .report s = .next t ∧ exec .reportShinkansen s = .next t

/-- 43 R143 (the reserved strap code 3 names the same model): at `MODEL = Ryojouhen` a `REPORT` responds
`ERR_IOERROR`, a negative length, and some buffer; the hat code is recomputed and no other register changes. The count
of buffers drawn is the model's own field (log 3). -/
def Obligations.ReportOnRyojouhenRaisesUnsupportedVariant : Prop :=
  modelOfStrap 3 = .ryojouhen ∧ ∀ s : State, s.model = .ryojouhen →
    Config.errIoError < 0 ∧
    ∃ buf : ReportBuf, ∀ t, t = { s with
        hatSwitch := (hatenc s.hatUp s.hatDown s.hatLeft s.hatRight).setWidth 8
        freeDraws := s.freeDraws + 1
        responses := s.responses ++ [.report Config.errIoError buf] } →
      exec .report s = .next t ∧ exec .reportRyojouhen s = .next t

/-- The rows `REPORT.Type2`, `REPORT.Shinkansen` and `REPORT.Ryojouhen` are the word of `REPORT`: in every state, the
strap whatever it is, each does what `REPORT` does (the model's reading, log 5). -/
def Obligations.ReportRowsDoWhatTheirWordDoes : Prop :=
  ∀ s : State, exec .reportType2 s = exec .report s ∧ exec .reportShinkansen s = exec .report s ∧
    exec .reportRyojouhen s = exec .report s

/-- 20 R50, 10 R36: on a model with a serializer a `REPORT` repeated at once gives the same response again and
changes nothing more. -/
def Obligations.ReportRepeatedRespondsTheSame : Prop :=
  ∀ s t : State, s.model ≠ .ryojouhen → exec .report s = .next t →
    ∃ r, t.responses = s.responses ++ [r] ∧ exec .report t = .next { t with responses := t.responses ++ [r] }

/-- 60 R200, R203 with 43 R144: the only error response is a `REPORT`'s on `Ryojouhen`. An instruction adds at most
one response, and that is a report of negative length exactly when the instruction is a `REPORT` and the model has no
serializer. -/
def Obligations.OnlyReportOnRyojouhenRespondsAnError : Prop :=
  ∀ (i : Instr) (s t : State), exec i s = .next t →
    ∃ out : List Response, t.responses = s.responses ++ out ∧ out.length ≤ 1 ∧
      ((∃ len buf, .report len buf ∈ out ∧ len < 0) ↔ (i.spelled = .report ∧ s.model = .ryojouhen)) ∧
      (∀ len buf, .report len buf ∈ out → len < 0 ∨ len = 6)

/-- 60 R207: a failed `REPORT` is not sticky: whatever comes next does to the registers, and responds, what it would
have from the state with the hat code recomputed and no failure before it. -/
def Obligations.UnsupportedVariantIsNotSticky : Prop :=
  ∀ (i : Instr) (s t u : State), s.model = .ryojouhen → exec .report s = .next t →
    exec i { s with hatSwitch := s.hatCode } = .next u →
    ∃ w, exec i t = .next w ∧
      { w with freeDraws := 0, responses := [] } = { u with freeDraws := 0, responses := [] } ∧
      (i.spelled ≠ .report → ∃ out, w.responses = t.responses ++ out ∧ u.responses = s.responses ++ out)

/-- 43 R137: the bytes a report can carry. From a state with the invariant, every byte of a `Type2` or `Shinkansen`
report is a constant, an output of its table, a compass code or a six-bit set. -/
def Obligations.ReportBytesComeFromTheNotches : Prop :=
  ∀ s : State, s.Inv →
    (s.model = .type2 → ∃ t b, exec .report s = .next t ∧ t.responses = s.responses ++ [.report 6 b] ∧
      b.b0 = 0x01 ∧ b.b1 ∈ [0xB9, 0xB5, 0xB2, 0xAF, 0xA8, 0xA2, 0x9A, 0x94, 0x8A, 0x79] ∧
      b.b2 ∈ [0x00, 0x21, 0x3F, 0x54, 0x6D, 0x81] ∧ b.b3 = 0xFF ∧ b.b4.toNat ≤ 8 ∧ b.b5.toNat ≤ 0x3F) ∧
    (s.model = .shinkansen → ∃ t b, exec .report s = .next t ∧ t.responses = s.responses ++ [.report 6 b] ∧
      b.b0 ∈ [0xFB, 0xDF, 0xC3, 0xA7, 0x8B, 0x70, 0x54, 0x38, 0x1C] ∧
      b.b1 ∈ [0xFB, 0xE9, 0xD7, 0xC6, 0xB4, 0xA2, 0x90, 0x7E, 0x6C, 0x5A, 0x48, 0x36, 0x24, 0x12] ∧
      b.b2 = 0xFF ∧ b.b3.toNat ≤ 8 ∧ b.b4.toNat ≤ 0x3F ∧ b.b5 = 0x00)

/-! ### The function units -/

/-- `HATENC` at its port answers the first of the nine tests that holds, the table of all 16 inputs, never above 8,
and 8 only with no flag: the values of 40 R91 to R93. That an evaluation at the port is a step which appends the
output and changes no register is the model's choice (log 6). -/
def Obligations.HatencPortAnswersThePrecedence : Prop :=
  (∀ (up down left right : Bool) (s : State),
    exec (.hatenc up down left right) s = .next { s with responses := s.responses ++ [.hatCode (
      if up = true ∧ right = true then 1 else if right = true ∧ down = true then 3
      else if down = true ∧ left = true then 5 else if left = true ∧ up = true then 7
      else if up = true then 0 else if right = true then 2 else if down = true then 4
      else if left = true then 6 else 8)] }) ∧
  (∀ (dir : BitVec 4) (s : State) (rest : List PortItem), ∃ i,
    decode (.hatencPort dir :: rest) = .ok (i, rest) ∧
    exec i s = .next { s with responses := s.responses ++
      [.hatCode (([8, 2, 6, 2, 4, 3, 5, 3, 0, 1, 7, 1, 0, 1, 5, 1] : List (BitVec 4)).getD dir.toNat 0)] }) ∧
  (∀ up down left right : Bool, (hatenc up down left right).toNat ≤ 8 ∧
    (hatenc up down left right = 8 → up = false ∧ down = false ∧ left = false ∧ right = false))

/-- The ROMs hold the stored pairs, and each `QUANT` port answers by the interval its input lies in: the values of 41
R103 to R106 with R102. That an evaluation at the port is a step which appends the output and changes no register is
the model's choice (log 6). -/
def Obligations.QuantPortsAnswerTheIntervals : Prop :=
  romPairs .t2p = [(0xF8, 0x00), (0xC8, 0x21), (0x98, 0x3F), (0x58, 0x54), (0x28, 0x6D), (0x00, 0x81)] ∧
  romPairs .t2b = [(0xF8, 0xB9), (0xE6, 0xB5), (0xCA, 0xB2), (0xAE, 0xAF), (0x92, 0xA8), (0x76, 0xA2), (0x5A, 0x9A),
    (0x3E, 0x94), (0x22, 0x8A), (0x00, 0x79)] ∧
  romPairs .skp = [(0xF7, 0xFB), (0xE4, 0xE9), (0xD1, 0xD7), (0xBE, 0xC6), (0xAB, 0xB4), (0x98, 0xA2), (0x85, 0x90),
    (0x72, 0x7E), (0x5F, 0x6C), (0x4C, 0x5A), (0x39, 0x48), (0x26, 0x36), (0x13, 0x24), (0x00, 0x12)] ∧
  romPairs .skb = [(0xF8, 0xFB), (0xCA, 0xDF), (0xAE, 0xC3), (0x92, 0xA7), (0x76, 0x8B), (0x5A, 0x70), (0x3E, 0x54),
    (0x22, 0x38), (0x00, 0x1C)] ∧
  ∀ (x : Byte) (s : State),
    exec (.quantT2P x) s = .next { s with responses := s.responses ++ [.notch (
      if 248 ≤ x.toNat then 0x00 else if 200 ≤ x.toNat then 0x21 else if 152 ≤ x.toNat then 0x3F
      else if 88 ≤ x.toNat then 0x54 else if 40 ≤ x.toNat then 0x6D else 0x81)] } ∧
    exec (.quantT2B x) s = .next { s with responses := s.responses ++ [.notch (
      if 248 ≤ x.toNat then 0xB9 else if 230 ≤ x.toNat then 0xB5 else if 202 ≤ x.toNat then 0xB2
      else if 174 ≤ x.toNat then 0xAF else if 146 ≤ x.toNat then 0xA8 else if 118 ≤ x.toNat then 0xA2
      else if 90 ≤ x.toNat then 0x9A else if 62 ≤ x.toNat then 0x94 else if 34 ≤ x.toNat then 0x8A else 0x79)] } ∧
    exec (.quantSKP x) s = .next { s with responses := s.responses ++ [.notch (
      if 247 ≤ x.toNat then 0xFB else if 228 ≤ x.toNat then 0xE9 else if 209 ≤ x.toNat then 0xD7
      else if 190 ≤ x.toNat then 0xC6 else if 171 ≤ x.toNat then 0xB4 else if 152 ≤ x.toNat then 0xA2
      else if 133 ≤ x.toNat then 0x90 else if 114 ≤ x.toNat then 0x7E else if 95 ≤ x.toNat then 0x6C
      else if 76 ≤ x.toNat then 0x5A else if 57 ≤ x.toNat then 0x48 else if 38 ≤ x.toNat then 0x36
      else if 19 ≤ x.toNat then 0x24 else 0x12)] } ∧
    exec (.quantSKB x) s = .next { s with responses := s.responses ++ [.notch (
      if 248 ≤ x.toNat then 0xFB else if 202 ≤ x.toNat then 0xDF else if 174 ≤ x.toNat then 0xC3
      else if 146 ≤ x.toNat then 0xA7 else if 118 ≤ x.toNat then 0x8B else if 90 ≤ x.toNat then 0x70
      else if 62 ≤ x.toNat then 0x54 else if 34 ≤ x.toNat then 0x38 else 0x1C)] }

/-- 41 R101, R110 (e): thresholds strictly descend to 0, and the lookup answers the output of the greatest threshold
at or below its input. -/
def Obligations.QuantAnswersTheGreatestThreshold : Prop :=
  ∀ t : NotchTable,
    (∀ j k p q, j < k → romRead t j = some p → romRead t k = some q → q.1 < p.1) ∧
    (∃ p, (romPairs t).getLast? = some p ∧ p.1 = 0) ∧
    ∀ x : Byte, ∃ k p, romRead t k = some p ∧ p.1 ≤ x ∧ p.2 = quant t x ∧
      ∀ k' p', romRead t k' = some p' → p'.1 ≤ x → p'.1 ≤ p.1

/-- 41 R108: three tables are non-decreasing in the input and `T2P` is non-increasing. -/
def Obligations.QuantIsMonotone : Prop :=
  ∀ x y : Byte, x ≤ y →
    quant .t2b x ≤ quant .t2b y ∧ quant .skp x ≤ quant .skp y ∧ quant .skb x ≤ quant .skb y ∧
    quant .t2p y ≤ quant .t2p x

/-- 41 R109: the answers at the two ends of the input range, the last and the first output of each table. -/
def Obligations.QuantAtTheEndPoints : Prop :=
  quant .t2p 0x00 = 0x81 ∧ quant .t2p 0xFF = 0x00 ∧ quant .t2b 0x00 = 0x79 ∧ quant .t2b 0xFF = 0xB9 ∧
  quant .skp 0x00 = 0x12 ∧ quant .skp 0xFF = 0xFB ∧ quant .skb 0x00 = 0x1C ∧ quant .skb 0xFF = 0xFB ∧
  ∀ t : NotchTable, (romPairs t).getLast?.map Prod.snd = some (quant t 0x00) ∧
    (romPairs t).head?.map Prod.snd = some (quant t 0xFF)

/-- The two forms of `REMAP` at their ports: the identity, and the formula with its permutation of bits, the values of
42 R121 to R123. That an evaluation at the port is a step which appends the output and changes no register is the
model's choice (log 6). -/
def Obligations.RemapPortsPermuteTheButtons : Prop :=
  ∀ (b : Byte) (s : State),
    exec (.remapT2 b) s = .next { s with responses := s.responses ++ [.wire b] } ∧
    ∃ w : Byte, exec (.remapSK b) s = .next { s with responses := s.responses ++ [.wire w] } ∧
      w = ((b &&& 0x03) <<< 2) ||| ((((b &&& 0x04) <<< 1) ||| ((b &&& 0x08) >>> 1)) >>> 2) ||| (b &&& 0x30) ∧
      w.getLsbD 2 = b.getLsbD 0 ∧ w.getLsbD 3 = b.getLsbD 1 ∧ w.getLsbD 1 = b.getLsbD 2 ∧
      w.getLsbD 0 = b.getLsbD 3 ∧ w.getLsbD 4 = b.getLsbD 4 ∧ w.getLsbD 5 = b.getLsbD 5 ∧
      w.getLsbD 6 = false ∧ w.getLsbD 7 = false

/-- 42 R125 with R123: on six-bit values each form is a bijection, and four applications of `REMAP_SK` are the
identity. -/
def Obligations.RemapIsABijectionOnSixBits : Prop :=
  (∀ y : Byte, y.toNat ≤ 0x3F →
    (∃! x : Byte, x.toNat ≤ 0x3F ∧ remapSK x = y) ∧ (∃! x : Byte, x.toNat ≤ 0x3F ∧ remapT2 x = y)) ∧
  ∀ b : Byte, b.toNat ≤ 0x3F →
    (remapSK b).toNat ≤ 0x3F ∧ remapSK (remapSK (remapSK (remapSK b))) = b

/-- The two forms of `SER` at their ports answer their six bytes and the count 6, the values of 43 R131 and R132. That
an evaluation at the port is a step which appends the output and changes no register is the model's choice (log 6). -/
def Obligations.SerPortsAnswerSixBytes : Prop :=
  ∀ (brake power hat buttons : Byte) (s : State),
    exec (.serT2 brake power hat buttons) s = .next { s with responses := s.responses ++
      [.serialized ⟨0x01, quant .t2b brake, quant .t2p power, 0xFF, hat &&& 0x0F, remapT2 buttons⟩ 6] } ∧
    exec (.serSK brake power hat buttons) s = .next { s with responses := s.responses ++
      [.serialized ⟨quant .skb brake, quant .skp power, 0xFF, hat &&& 0x0F, remapSK buttons, 0x00⟩ 6] }

/-! ### Encoding -/

/-- Decode and encode agree for every encodable instruction that spells a command or a unit evaluation, whatever
follows its items. The three `REPORT` rows, whose strap is in no word (30 R76), come back as `REPORT` (log 5); the
order of the bits in `SER`'s port word is the model's choice (log 8). -/
def Obligations.DecodeOfEncodeIsTheInstruction : Prop :=
  ∀ (i : Instr) (rest : List PortItem), i.wf = true → i.encodable = true → i.isReserved = false →
    decode (encode i ++ rest) = .ok (i.spelled, rest)

/-- What the decoder answers is a well-formed, encodable instruction, never the row `(reserved)`, read from exactly as
many items as its command's one length (30 R76); and encoding it gives the same items but for an ignored `idx`
(R75). -/
def Obligations.DecodedInstructionsAreWellFormed : Prop :=
  ∀ (items rest : List PortItem) (i : Instr), decode items = .ok (i, rest) →
    i.wf = true ∧ i.encodable = true ∧ i.isReserved = false ∧ i.spelled = i ∧
    ∃ taken, items = taken ++ rest ∧ taken.length = i.itemCount ∧
      (taken = encode i ∨ ∃ h tail, taken = .byte h :: tail ∧ encode i = .byte (headerOf (opField h) 0) :: tail ∧
        2 ≤ (opField h).toNat)

/-- 30 R74: a header with `op` in `0x6` to `0xF` spells no command: the decoder answers invalid, the row's meaning
and a step at such a header are refused by name. The strap code 3 names a variant lacking a serializer (R66). -/
def Obligations.ReservedHeadersAreInvalid : Prop :=
  modelOfStrap 3 = .ryojouhen ∧
  ∀ (h : Byte) (rest : List PortItem) (s : State), 0x60 ≤ h.toNat →
    decode (.byte h :: rest) = .error (.reservedHeader h) ∧
    exec (.reserved h) s = .refused (.reservedCommand h) ∧
    (s.input = .byte h :: rest → step s = .refused (.reservedCommand h))

/-- 30 R75: any of the 16 values of `idx` spells the same `RESET`, `REPORT`, `SAVE` or `LOAD`, and the encoder
writes 0. -/
def Obligations.IgnoredIndexFieldIsIgnored : Prop :=
  (∀ (idx : BitVec 4) (p b : Byte) (rest : List PortItem),
    decode (.byte (headerOf 2 idx) :: rest) = .ok (.reset, rest) ∧
    decode (.byte (headerOf 3 idx) :: rest) = .ok (.report, rest) ∧
    decode (.byte (headerOf 4 idx) :: rest) = .ok (.save, rest) ∧
    decode (.byte (headerOf 5 idx) :: .byte p :: .byte b :: rest) = .ok (.load p b, rest)) ∧
  encode .reset = [.byte 0x20] ∧ encode .report = [.byte 0x30] ∧ encode .save = [.byte 0x40] ∧
  ∀ p b : Byte, encode (.load p b) = [.byte 0x50, .byte p, .byte b]

/-- A few words, written out from their encodings (30 R62, R64, R77), decode to the instructions they stand for. The
order of the bits in `SER`'s port word is the model's choice (log 8), and so is how `decodeTableWord` reads the
table's numbering (log 9). -/
def Obligations.DecodeOfSampleWords : Prop :=
  decode [.byte 0x07] = .ok (.getButtonA, []) ∧
  decode [.byte 0x13, .value (3 / 10)] = .ok (.setHatRight (3 / 10), []) ∧
  decode [.byte 0x2F, .byte 0x40] = .ok (.reset, [.byte 0x40]) ∧
  decode [.byte 0x50, .byte 0x33, .byte 0xFF] = .ok (.load 0x33 0xFF, []) ∧
  decode [.hatencPort 0b1100] = .ok (.hatenc true true false false, []) ∧
  decode [.quantPort 0b0111111000] = .ok (.quantT2B 0xF8, []) ∧
  decode [.remapPort 0b100000010] = .ok (.remapSK 0x02, []) ∧
  decode [.serPort 0x100FF0002] = .ok (.serSK 0x00 0xFF 0x00 0x02, []) ∧
  decodeTableWord 8 0x30 = some .report ∧ decodeTableWord 8 0x60 = none

/-- 30 R66: the strap codes 0, 1, 2 name the three models in the document's order, and an instance strapped 3 is one
strapped 2: its `REPORT` fails. -/
def Obligations.StrapCodesNameTheModels : Prop :=
  State.powerOn 0 = State.instantiate .type2 ∧ State.powerOn 1 = State.instantiate .shinkansen ∧
  State.powerOn 2 = State.instantiate .ryojouhen ∧ State.powerOn 3 = State.powerOn 2 ∧
  ∃ len buf t, exec .report (State.powerOn 3) = .next t ∧ t.responses = [.report len buf] ∧ len < 0

/-! ### Steps -/

/-- A step runs the decoded instruction, on the state without that instruction's items and otherwise the same (the
input is the model's own field, log 4). -/
def Obligations.StepRunsTheDecodedInstruction : Prop :=
  ∀ (s : State) (i : Instr) (rest : List PortItem), decode s.input = .ok (i, rest) →
    step s = exec i { s with input := rest }

/-- With nothing presented the block waits unchanged (70 R225: it has no final state), and items that are no command
are refused by name (20 R47: the model's own names, log 10). -/
def Obligations.StepWithoutACommand : Prop :=
  ∀ (s : State) (h : Byte) (v : Value) (rest : List PortItem),
    (s.input = [] → step s = .next s) ∧
    (s.input = .value v :: rest → step s = .refused .malformedCommand) ∧
    ((opField h).toNat = 1 → s.input = [.byte h] → step s = .refused .incompleteCommand) ∧
    ((opField h).toNat = 1 → (∃ b, s.input = .byte h :: .byte b :: rest) → step s = .refused .malformedCommand) ∧
    ((opField h).toNat = 5 → (s.input = [.byte h] ∨ ∃ p, s.input = [.byte h, .byte p]) →
      step s = .refused .incompleteCommand)

/-- 44 R150, 60 R203, 43 R144 (d): every instruction but the row `(reserved)` completes in every state. -/
def Obligations.EveryCommandCompletes : Prop :=
  ∀ (i : Instr) (s : State), i.isReserved = false → ∃ t, exec i s = .next t

/-! ### Invariants -/

/-- Instantiation as any model, and reset, meet the invariant: bits 7:6 of the buttons are 0, the hat code is a
compass code, and it is fresh or still the instantiation value. -/
def Obligations.InstantiationMeetsTheInvariant : Prop :=
  (∀ m : Model, (State.instantiate m).Inv) ∧ State.reset.Inv

/-- Every step keeps the invariant (10 R25, R28, 30 R67), from every state that has it. -/
def Obligations.StepKeepsTheInvariant : Prop :=
  ∀ s t : State, s.Inv → step s = .next t → t.Inv

/-- 10 R28: bits 7 and 6 of `S.buttons` are 0 in every reachable state, whatever the model, the parameters and what
the host presents; and there the hat code is never above 8. -/
def Obligations.ReachableButtonsHaveNoUnusedBit : Prop :=
  ∀ (m : Model) (ties : RoundTies) (order : AbOrder) (items : List PortItem) (n : Nat) (t : State),
    Host.Core.run Sys2Proof.core n
      ({ State.instantiate m with roundTies := ties, abOrder := order, input := items } : State) = .next t →
    t.buttons &&& 0xC0 = 0 ∧ t.hatSwitch.toNat ≤ 8 ∧
    ∀ (i : Instr) (u : State), exec i t = .next u → u.buttons &&& 0xC0 = 0

/-- 10 R29, 60 R210: no step changes the strap, nor the two parameters; and no step takes a response back
(the responses and the input are the model's own fields, log 4, log 14). -/
def Obligations.StepKeepsTheStrap : Prop :=
  ∀ s t : State, step s = .next t →
    t.model = s.model ∧ t.roundTies = s.roundTies ∧ t.abOrder = s.abOrder ∧
    (∃ out, t.responses = s.responses ++ out) ∧ (∃ taken, s.input = taken ++ t.input)

/-! ### The whole machine -/

/-- 10 R20, column "written by", and 44 R150: each control changes only by an instruction that writes it; the hat code
only by a hat `SET` or a `REPORT`, and then to the encoder's output; nothing writes the strap. -/
def Obligations.RegistersChangeOnlyByTheirWriters : Prop :=
  ∀ (i : Instr) (s t : State), exec i s = .next t →
    (t.power ≠ s.power → i.writesBinding 0 = true) ∧ (t.brake ≠ s.brake → i.writesBinding 1 = true) ∧
    (t.hatUp ≠ s.hatUp → i.writesBinding 2 = true) ∧ (t.hatRight ≠ s.hatRight → i.writesBinding 3 = true) ∧
    (t.hatDown ≠ s.hatDown → i.writesBinding 4 = true) ∧ (t.hatLeft ≠ s.hatLeft → i.writesBinding 5 = true) ∧
    (t.hatSwitch ≠ s.hatSwitch → t.hatSwitch = t.hatCode ∧ (i.spelled = .report ∨ i.writesBinding 2 = true ∨
      i.writesBinding 3 = true ∨ i.writesBinding 4 = true ∨ i.writesBinding 5 = true)) ∧
    (∀ button, t.readButton button ≠ s.readButton button → ∃ v, i = match button with
      | .b => .setButtonB v | .a => .setButtonA v | .c => .setButtonC v | .d => .setButtonD v
      | .select => .setSelect v | .start => .setStart v) ∧
    (s.buttons &&& 0xC0 = t.buttons &&& 0xC0) ∧
    t.model = s.model ∧ t.roundTies = s.roundTies ∧ t.abOrder = s.abOrder ∧ t.input = s.input ∧
    (t.freeDraws ≠ s.freeDraws → i.spelled = .report ∧ s.model = .ryojouhen)

/-- 20 R50: `SET`, `LOAD` and `RESET` are idempotent. -/
def Obligations.WritesAreIdempotent : Prop :=
  ∀ (i : Instr) (s t : State),
    ((∃ idx v, i = setCommand idx v) ∨ (∃ p b, i = .load p b) ∨ i = .reset) →
    exec i s = .next t → exec i t = .next t

/-- 44 R184: an axis set and read back answers within `1/510` (so within `1/255`) of the value set, for `v` in
[0, 1]; outside, 0 or 1; and setting an axis to the value it reads leaves it unchanged. -/
def Obligations.AxisRoundTrip : Prop :=
  (∀ (idx : Nat) (v : Value) (s : State), idx ≤ 1 →
    ∃ t w, runInstrs [setCommand idx v, getCommand idx] s = .next t ∧ t.responses = s.responses ++ [.value w] ∧
      w = ((toRaw s.roundTies v).toNat : Rat) / 255 ∧
      (0 ≤ v → v ≤ 1 → |w - v| ≤ 1 / 510 ∧ |w - v| ≤ 1 / 255) ∧ (v < 0 → w = 0) ∧ (1 < v → w = 1)) ∧
  (∀ (ties : RoundTies) (k : Byte), toRaw ties ((k.toNat : Rat) / 255) = k) ∧
  (∀ (idx : Nat) (s t : State) (v : Value), idx ≤ 1 → exec (getCommand idx) s = .next t →
    t.responses = s.responses ++ [.value v] → exec (setCommand idx v) s = .next s)

/-- 44 R185, second half: what `GET` answers after a `SET` of the same index. -/
def Obligations.GetAfterSetReadsTheConversion : Prop :=
  ∀ (idx : Nat) (v : Value) (s : State), ∃ t, exec (setCommand idx v) s = .next t ∧
    exec (getCommand idx) t = .next { t with responses := t.responses ++ [.value (
      if idx ≤ 1 then ((toRaw s.roundTies v).toNat : Rat) / 255
      else if idx ≤ 5 then (if toRaw s.roundTies v ≠ 0 then 1 else 0)
      else if idx ≤ 11 then (if 1 / 2 ≤ v then 1 else 0)
      else 0)] }

/-- 44 R186: after `RESET` the two axes read 0 and the hat and button bindings read as before it. -/
def Obligations.ResetThenGet : Prop :=
  ∀ (s t : State) (idx : Nat), exec .reset s = .next t →
    (idx ≤ 1 → exec (getCommand idx) t = .next { t with responses := t.responses ++ [.value 0] }) ∧
    (2 ≤ idx → ∃ v, exec (getCommand idx) s = .next { s with responses := s.responses ++ [.value v] } ∧
      exec (getCommand idx) t = .next { t with responses := t.responses ++ [.value v] })

/-- 44 R185, first half: two `GET`s of an index give the same value when no instruction run between them writes that
index, however many there are. -/
def Obligations.GetIsStableBetweenWrites : Prop :=
  ∀ (is : List Instr) (idx : Nat) (s t : State), (∀ i ∈ is, i.writesBinding idx = false) →
    runInstrs is s = .next t →
    ∃ v, exec (getCommand idx) s = .next { s with responses := s.responses ++ [.value v] } ∧
      exec (getCommand idx) t = .next { t with responses := t.responses ++ [.value v] }

/-- 10 R35: `S.hatSwitch` is unobservable. Two runs of the same instructions from states that differ in it alone end
alike: the same refusal, or states that differ in it alone, all responses the same. -/
def Obligations.HatSwitchIsUnobservable : Prop :=
  ∀ (is : List Instr) (s s' : State), s.SameButHat s' →
    (∀ t, runInstrs is s = .next t → ∃ t', runInstrs is s' = .next t' ∧ t.SameButHat t' ∧
      t'.responses = t.responses) ∧
    (∀ r, runInstrs is s = .refused r → runInstrs is s' = .refused r)

/-- 20 R49, R51 (the input is the model's own field, log 4): commands presented one after the other on the ports are
taken one a step, in the order presented, each whole and on the state the one before it left: the run of steps over
their items is the run of the instructions. -/
def Obligations.PresentedCommandsRunInOrder : Prop :=
  ∀ (is : List Instr) (s : State) (later : List PortItem),
    (∀ i ∈ is, i.wf = true ∧ i.encodable = true ∧ i.isReserved = false) →
    s.input = encodeAll is ++ later →
    ∃ t, runInstrs is { s with input := later } = .next t ∧ Host.Core.run Sys2Proof.core is.length s = .next t
end

