-- ==== Sys2Proof/Laws/Decode.lean ====
section
/-! SUPPORT. The fields of a header and of the unit ports, and what the decoder answers on each kind of item. -/

namespace Sys2Proof.Laws

@[simp] theorem opField_headerOf (op idx : BitVec 4) : opField (headerOf op idx) = op := by
  revert op idx
  decide

@[simp] theorem idxField_headerOf (op idx : BitVec 4) : idxField (headerOf op idx) = idx := by
  revert op idx
  decide

/-- A header byte is its two fields (30 R61). -/
theorem headerOf_fields (h : Byte) : headerOf (opField h) (idxField h) = h := by
  apply BitVec.eq_of_getLsbD_eq
  intro i hi
  have e : (headerOf (opField h) (idxField h)).getLsbD i =
      if i < 4 then (idxField h).getLsbD i else (opField h).getLsbD (i - 4) := BitVec.getLsbD_append
  rw [e]
  split
  · next hlt => simp [idxField, hlt]
  · next hge =>
    have h1 : i - 4 < 4 := by omega
    have h2 : 4 + (i - 4) = i := by omega
    simp [opField, h1, h2]

@[simp] theorem decode_nil : decode [] = .error .noInput := rfl

@[simp] theorem decode_byte (h : Byte) (rest : List PortItem) : decode (.byte h :: rest) = decodeCommand h rest := rfl

@[simp] theorem decode_value (v : Value) (rest : List PortItem) :
    decode (.value v :: rest) = .error .misplacedItem := rfl

@[simp] theorem decode_hatencPort (dir : BitVec 4) (rest : List PortItem) :
    decode (.hatencPort dir :: rest) = .ok (decodeHatenc dir, rest) := rfl

@[simp] theorem decode_quantPort (w : BitVec 10) (rest : List PortItem) :
    decode (.quantPort w :: rest) = .ok (decodeQuant w, rest) := rfl

@[simp] theorem decode_remapPort (w : BitVec 9) (rest : List PortItem) :
    decode (.remapPort w :: rest) = .ok (decodeRemap w, rest) := rfl

@[simp] theorem decode_serPort (w : BitVec 33) (rest : List PortItem) :
    decode (.serPort w :: rest) = .ok (decodeSer w, rest) := rfl

/-- `GET` of an index from 12 up is the unknown one (30 R73). -/
theorem getCommand_unknown (idx : Nat) (h : 12 ≤ idx) : getCommand idx = .getUnknown idx := by
  obtain ⟨k, rfl⟩ := Nat.exists_eq_add_of_le' h
  rfl

/-- `SET` of an index from 12 up is the unknown one (30 R73). -/
theorem setCommand_unknown (idx : Nat) (v : Value) (h : 12 ≤ idx) : setCommand idx v = .setUnknown idx v := by
  obtain ⟨k, rfl⟩ := Nat.exists_eq_add_of_le' h
  rfl

end Sys2Proof.Laws
end

