-- ==== Sys2Proof/Laws/Operands.lean ====
section
/-! SUPPORT. What the conversions answer, said once. -/

namespace Sys2Proof.Laws

open Sys2Proof.Machine

/-- `round` answers the floor or the integer above it (00 R12). -/
theorem roundRat_floor_or_succ (ties : RoundTies) (q : Rat) :
    roundRat ties q = q.floor ∨ roundRat ties q = q.floor + 1 := by
  unfold roundRat
  split
  · exact .inl rfl
  · split
    · exact .inr rfl
    · cases ties <;> dsimp only <;> split <;> simp

/-- `clamp` to 0 and 255 answers an integer in that range. -/
theorem clampInt_byte (n : Int) : 0 ≤ clampInt n 0 255 ∧ clampInt n 0 255 ≤ 255 := by
  unfold clampInt
  split
  · omega
  · split <;> omega

theorem clampInt_of_mem {n lo hi : Int} (h₁ : lo ≤ n) (h₂ : n ≤ hi) : clampInt n lo hi = n := by
  unfold clampInt
  rw [if_neg (by omega), if_neg (by omega)]

/-- The raw byte as a number is the clamped rounded product: nothing is lost in the byte (30 R71). -/
theorem toRaw_toNat (ties : RoundTies) (v : Value) :
    ((toRaw ties v).toNat : Int) = clampInt (roundRat ties (v * 255)) 0 255 := by
  obtain ⟨h₀, h₁⟩ := clampInt_byte (roundRat ties (v * 255))
  unfold toRaw
  rw [BitVec.toNat_ofInt]
  omega

theorem toFlag_iff (ties : RoundTies) (v : Value) : toFlag ties v = true ↔ toRaw ties v ≠ 0 := by
  simp [toFlag, boolOf]

@[simp] theorem toBit_iff (v : Value) : toBit v = true ↔ 1 / 2 ≤ v := by simp [toBit]

end Sys2Proof.Laws
end

