-- ==== Sys2Proof/Laws/State.lean ====
section
/-! SUPPORT. Each register update, field by field: what it writes and that it leaves every other field alone. -/

namespace Sys2Proof.Machine

@[simp] theorem State.writePower_power (s : State) (b : Byte) : (s.writePower b).power = b := rfl
@[simp] theorem State.writePower_brake (s : State) (b : Byte) : (s.writePower b).brake = s.brake := rfl
@[simp] theorem State.writePower_hatUp (s : State) (b : Byte) : (s.writePower b).hatUp = s.hatUp := rfl
@[simp] theorem State.writePower_hatDown (s : State) (b : Byte) : (s.writePower b).hatDown = s.hatDown := rfl
@[simp] theorem State.writePower_hatLeft (s : State) (b : Byte) : (s.writePower b).hatLeft = s.hatLeft := rfl
@[simp] theorem State.writePower_hatRight (s : State) (b : Byte) : (s.writePower b).hatRight = s.hatRight := rfl
@[simp] theorem State.writePower_hatSwitch (s : State) (b : Byte) : (s.writePower b).hatSwitch = s.hatSwitch := rfl
@[simp] theorem State.writePower_buttons (s : State) (b : Byte) : (s.writePower b).buttons = s.buttons := rfl
@[simp] theorem State.writePower_model (s : State) (b : Byte) : (s.writePower b).model = s.model := rfl
@[simp] theorem State.writePower_roundTies (s : State) (b : Byte) : (s.writePower b).roundTies = s.roundTies := rfl
@[simp] theorem State.writePower_abOrder (s : State) (b : Byte) : (s.writePower b).abOrder = s.abOrder := rfl
@[simp] theorem State.writePower_freeDraws (s : State) (b : Byte) : (s.writePower b).freeDraws = s.freeDraws := rfl
@[simp] theorem State.writePower_input (s : State) (b : Byte) : (s.writePower b).input = s.input := rfl
@[simp] theorem State.writePower_responses (s : State) (b : Byte) : (s.writePower b).responses = s.responses := rfl

@[simp] theorem State.writeBrake_power (s : State) (b : Byte) : (s.writeBrake b).power = s.power := rfl
@[simp] theorem State.writeBrake_brake (s : State) (b : Byte) : (s.writeBrake b).brake = b := rfl
@[simp] theorem State.writeBrake_hatUp (s : State) (b : Byte) : (s.writeBrake b).hatUp = s.hatUp := rfl
@[simp] theorem State.writeBrake_hatDown (s : State) (b : Byte) : (s.writeBrake b).hatDown = s.hatDown := rfl
@[simp] theorem State.writeBrake_hatLeft (s : State) (b : Byte) : (s.writeBrake b).hatLeft = s.hatLeft := rfl
@[simp] theorem State.writeBrake_hatRight (s : State) (b : Byte) : (s.writeBrake b).hatRight = s.hatRight := rfl
@[simp] theorem State.writeBrake_hatSwitch (s : State) (b : Byte) : (s.writeBrake b).hatSwitch = s.hatSwitch := rfl
@[simp] theorem State.writeBrake_buttons (s : State) (b : Byte) : (s.writeBrake b).buttons = s.buttons := rfl
@[simp] theorem State.writeBrake_model (s : State) (b : Byte) : (s.writeBrake b).model = s.model := rfl
@[simp] theorem State.writeBrake_roundTies (s : State) (b : Byte) : (s.writeBrake b).roundTies = s.roundTies := rfl
@[simp] theorem State.writeBrake_abOrder (s : State) (b : Byte) : (s.writeBrake b).abOrder = s.abOrder := rfl
@[simp] theorem State.writeBrake_freeDraws (s : State) (b : Byte) : (s.writeBrake b).freeDraws = s.freeDraws := rfl
@[simp] theorem State.writeBrake_input (s : State) (b : Byte) : (s.writeBrake b).input = s.input := rfl
@[simp] theorem State.writeBrake_responses (s : State) (b : Byte) : (s.writeBrake b).responses = s.responses := rfl

@[simp] theorem State.writeHatUp_power (s : State) (f : Bool) : (s.writeHatUp f).power = s.power := rfl
@[simp] theorem State.writeHatUp_brake (s : State) (f : Bool) : (s.writeHatUp f).brake = s.brake := rfl
@[simp] theorem State.writeHatUp_hatUp (s : State) (f : Bool) : (s.writeHatUp f).hatUp = f := rfl
@[simp] theorem State.writeHatUp_hatDown (s : State) (f : Bool) : (s.writeHatUp f).hatDown = s.hatDown := rfl
@[simp] theorem State.writeHatUp_hatLeft (s : State) (f : Bool) : (s.writeHatUp f).hatLeft = s.hatLeft := rfl
@[simp] theorem State.writeHatUp_hatRight (s : State) (f : Bool) : (s.writeHatUp f).hatRight = s.hatRight := rfl
@[simp] theorem State.writeHatUp_hatSwitch (s : State) (f : Bool) : (s.writeHatUp f).hatSwitch = s.hatSwitch := rfl
@[simp] theorem State.writeHatUp_buttons (s : State) (f : Bool) : (s.writeHatUp f).buttons = s.buttons := rfl
@[simp] theorem State.writeHatUp_model (s : State) (f : Bool) : (s.writeHatUp f).model = s.model := rfl
@[simp] theorem State.writeHatUp_roundTies (s : State) (f : Bool) : (s.writeHatUp f).roundTies = s.roundTies := rfl
@[simp] theorem State.writeHatUp_abOrder (s : State) (f : Bool) : (s.writeHatUp f).abOrder = s.abOrder := rfl
@[simp] theorem State.writeHatUp_freeDraws (s : State) (f : Bool) : (s.writeHatUp f).freeDraws = s.freeDraws := rfl
@[simp] theorem State.writeHatUp_input (s : State) (f : Bool) : (s.writeHatUp f).input = s.input := rfl
@[simp] theorem State.writeHatUp_responses (s : State) (f : Bool) : (s.writeHatUp f).responses = s.responses := rfl

@[simp] theorem State.writeHatDown_power (s : State) (f : Bool) : (s.writeHatDown f).power = s.power := rfl
@[simp] theorem State.writeHatDown_brake (s : State) (f : Bool) : (s.writeHatDown f).brake = s.brake := rfl
@[simp] theorem State.writeHatDown_hatUp (s : State) (f : Bool) : (s.writeHatDown f).hatUp = s.hatUp := rfl
@[simp] theorem State.writeHatDown_hatDown (s : State) (f : Bool) : (s.writeHatDown f).hatDown = f := rfl
@[simp] theorem State.writeHatDown_hatLeft (s : State) (f : Bool) : (s.writeHatDown f).hatLeft = s.hatLeft := rfl
@[simp] theorem State.writeHatDown_hatRight (s : State) (f : Bool) : (s.writeHatDown f).hatRight = s.hatRight := rfl
@[simp] theorem State.writeHatDown_hatSwitch (s : State) (f : Bool) :
    (s.writeHatDown f).hatSwitch =
      s.hatSwitch :=
  rfl
@[simp] theorem State.writeHatDown_buttons (s : State) (f : Bool) : (s.writeHatDown f).buttons = s.buttons := rfl
@[simp] theorem State.writeHatDown_model (s : State) (f : Bool) : (s.writeHatDown f).model = s.model := rfl
@[simp] theorem State.writeHatDown_roundTies (s : State) (f : Bool) :
    (s.writeHatDown f).roundTies =
      s.roundTies :=
  rfl
@[simp] theorem State.writeHatDown_abOrder (s : State) (f : Bool) : (s.writeHatDown f).abOrder = s.abOrder := rfl
@[simp] theorem State.writeHatDown_freeDraws (s : State) (f : Bool) :
    (s.writeHatDown f).freeDraws =
      s.freeDraws :=
  rfl
@[simp] theorem State.writeHatDown_input (s : State) (f : Bool) : (s.writeHatDown f).input = s.input := rfl
@[simp] theorem State.writeHatDown_responses (s : State) (f : Bool) :
    (s.writeHatDown f).responses =
      s.responses :=
  rfl

@[simp] theorem State.writeHatLeft_power (s : State) (f : Bool) : (s.writeHatLeft f).power = s.power := rfl
@[simp] theorem State.writeHatLeft_brake (s : State) (f : Bool) : (s.writeHatLeft f).brake = s.brake := rfl
@[simp] theorem State.writeHatLeft_hatUp (s : State) (f : Bool) : (s.writeHatLeft f).hatUp = s.hatUp := rfl
@[simp] theorem State.writeHatLeft_hatDown (s : State) (f : Bool) : (s.writeHatLeft f).hatDown = s.hatDown := rfl
@[simp] theorem State.writeHatLeft_hatLeft (s : State) (f : Bool) : (s.writeHatLeft f).hatLeft = f := rfl
@[simp] theorem State.writeHatLeft_hatRight (s : State) (f : Bool) : (s.writeHatLeft f).hatRight = s.hatRight := rfl
@[simp] theorem State.writeHatLeft_hatSwitch (s : State) (f : Bool) :
    (s.writeHatLeft f).hatSwitch =
      s.hatSwitch :=
  rfl
@[simp] theorem State.writeHatLeft_buttons (s : State) (f : Bool) : (s.writeHatLeft f).buttons = s.buttons := rfl
@[simp] theorem State.writeHatLeft_model (s : State) (f : Bool) : (s.writeHatLeft f).model = s.model := rfl
@[simp] theorem State.writeHatLeft_roundTies (s : State) (f : Bool) :
    (s.writeHatLeft f).roundTies =
      s.roundTies :=
  rfl
@[simp] theorem State.writeHatLeft_abOrder (s : State) (f : Bool) : (s.writeHatLeft f).abOrder = s.abOrder := rfl
@[simp] theorem State.writeHatLeft_freeDraws (s : State) (f : Bool) :
    (s.writeHatLeft f).freeDraws =
      s.freeDraws :=
  rfl
@[simp] theorem State.writeHatLeft_input (s : State) (f : Bool) : (s.writeHatLeft f).input = s.input := rfl
@[simp] theorem State.writeHatLeft_responses (s : State) (f : Bool) :
    (s.writeHatLeft f).responses =
      s.responses :=
  rfl

@[simp] theorem State.writeHatRight_power (s : State) (f : Bool) : (s.writeHatRight f).power = s.power := rfl
@[simp] theorem State.writeHatRight_brake (s : State) (f : Bool) : (s.writeHatRight f).brake = s.brake := rfl
@[simp] theorem State.writeHatRight_hatUp (s : State) (f : Bool) : (s.writeHatRight f).hatUp = s.hatUp := rfl
@[simp] theorem State.writeHatRight_hatDown (s : State) (f : Bool) : (s.writeHatRight f).hatDown = s.hatDown := rfl
@[simp] theorem State.writeHatRight_hatLeft (s : State) (f : Bool) : (s.writeHatRight f).hatLeft = s.hatLeft := rfl
@[simp] theorem State.writeHatRight_hatRight (s : State) (f : Bool) : (s.writeHatRight f).hatRight = f := rfl
@[simp] theorem State.writeHatRight_hatSwitch (s : State) (f : Bool) :
    (s.writeHatRight f).hatSwitch =
      s.hatSwitch :=
  rfl
@[simp] theorem State.writeHatRight_buttons (s : State) (f : Bool) : (s.writeHatRight f).buttons = s.buttons := rfl
@[simp] theorem State.writeHatRight_model (s : State) (f : Bool) : (s.writeHatRight f).model = s.model := rfl
@[simp] theorem State.writeHatRight_roundTies (s : State) (f : Bool) :
    (s.writeHatRight f).roundTies =
      s.roundTies :=
  rfl
@[simp] theorem State.writeHatRight_abOrder (s : State) (f : Bool) : (s.writeHatRight f).abOrder = s.abOrder := rfl
@[simp] theorem State.writeHatRight_freeDraws (s : State) (f : Bool) :
    (s.writeHatRight f).freeDraws =
      s.freeDraws :=
  rfl
@[simp] theorem State.writeHatRight_input (s : State) (f : Bool) : (s.writeHatRight f).input = s.input := rfl
@[simp] theorem State.writeHatRight_responses (s : State) (f : Bool) :
    (s.writeHatRight f).responses =
      s.responses :=
  rfl

@[simp] theorem State.updateHat_power (s : State) : s.updateHat.power = s.power := rfl
@[simp] theorem State.updateHat_brake (s : State) : s.updateHat.brake = s.brake := rfl
@[simp] theorem State.updateHat_hatUp (s : State) : s.updateHat.hatUp = s.hatUp := rfl
@[simp] theorem State.updateHat_hatDown (s : State) : s.updateHat.hatDown = s.hatDown := rfl
@[simp] theorem State.updateHat_hatLeft (s : State) : s.updateHat.hatLeft = s.hatLeft := rfl
@[simp] theorem State.updateHat_hatRight (s : State) : s.updateHat.hatRight = s.hatRight := rfl
@[simp] theorem State.updateHat_hatSwitch (s : State) : s.updateHat.hatSwitch = s.hatCode := rfl
@[simp] theorem State.updateHat_buttons (s : State) : s.updateHat.buttons = s.buttons := rfl
@[simp] theorem State.updateHat_model (s : State) : s.updateHat.model = s.model := rfl
@[simp] theorem State.updateHat_roundTies (s : State) : s.updateHat.roundTies = s.roundTies := rfl
@[simp] theorem State.updateHat_abOrder (s : State) : s.updateHat.abOrder = s.abOrder := rfl
@[simp] theorem State.updateHat_freeDraws (s : State) : s.updateHat.freeDraws = s.freeDraws := rfl
@[simp] theorem State.updateHat_input (s : State) : s.updateHat.input = s.input := rfl
@[simp] theorem State.updateHat_responses (s : State) : s.updateHat.responses = s.responses := rfl

@[simp] theorem State.writeButton_power (s : State) (button : Button) (on : Bool) :
    (s.writeButton button on).power =
      s.power :=
  rfl
@[simp] theorem State.writeButton_brake (s : State) (button : Button) (on : Bool) :
    (s.writeButton button on).brake =
      s.brake :=
  rfl
@[simp] theorem State.writeButton_hatUp (s : State) (button : Button) (on : Bool) :
    (s.writeButton button on).hatUp =
      s.hatUp :=
  rfl
@[simp] theorem State.writeButton_hatDown (s : State) (button : Button) (on : Bool) :
    (s.writeButton button on).hatDown =
      s.hatDown :=
  rfl
@[simp] theorem State.writeButton_hatLeft (s : State) (button : Button) (on : Bool) :
    (s.writeButton button on).hatLeft =
      s.hatLeft :=
  rfl
@[simp] theorem State.writeButton_hatRight (s : State) (button : Button) (on : Bool) :
    (s.writeButton button on).hatRight =
      s.hatRight :=
  rfl
@[simp] theorem State.writeButton_hatSwitch (s : State) (button : Button) (on : Bool) :
    (s.writeButton button on).hatSwitch =
      s.hatSwitch :=
  rfl
@[simp] theorem State.writeButton_buttons (s : State) (button : Button) (on : Bool) :
    (s.writeButton button on).buttons =
      if on then s.buttons ||| buttonMask s.abOrder button else s.buttons &&& ~~~(buttonMask s.abOrder button) :=
  rfl
@[simp] theorem State.writeButton_model (s : State) (button : Button) (on : Bool) :
    (s.writeButton button on).model =
      s.model :=
  rfl
@[simp] theorem State.writeButton_roundTies (s : State) (button : Button) (on : Bool) :
    (s.writeButton button on).roundTies =
      s.roundTies :=
  rfl
@[simp] theorem State.writeButton_abOrder (s : State) (button : Button) (on : Bool) :
    (s.writeButton button on).abOrder =
      s.abOrder :=
  rfl
@[simp] theorem State.writeButton_freeDraws (s : State) (button : Button) (on : Bool) :
    (s.writeButton button on).freeDraws =
      s.freeDraws :=
  rfl
@[simp] theorem State.writeButton_input (s : State) (button : Button) (on : Bool) :
    (s.writeButton button on).input =
      s.input :=
  rfl
@[simp] theorem State.writeButton_responses (s : State) (button : Button) (on : Bool) :
    (s.writeButton button on).responses =
      s.responses :=
  rfl

@[simp] theorem State.respond_power (s : State) (r : Response) : (s.respond r).power = s.power := rfl
@[simp] theorem State.respond_brake (s : State) (r : Response) : (s.respond r).brake = s.brake := rfl
@[simp] theorem State.respond_hatUp (s : State) (r : Response) : (s.respond r).hatUp = s.hatUp := rfl
@[simp] theorem State.respond_hatDown (s : State) (r : Response) : (s.respond r).hatDown = s.hatDown := rfl
@[simp] theorem State.respond_hatLeft (s : State) (r : Response) : (s.respond r).hatLeft = s.hatLeft := rfl
@[simp] theorem State.respond_hatRight (s : State) (r : Response) : (s.respond r).hatRight = s.hatRight := rfl
@[simp] theorem State.respond_hatSwitch (s : State) (r : Response) : (s.respond r).hatSwitch = s.hatSwitch := rfl
@[simp] theorem State.respond_buttons (s : State) (r : Response) : (s.respond r).buttons = s.buttons := rfl
@[simp] theorem State.respond_model (s : State) (r : Response) : (s.respond r).model = s.model := rfl
@[simp] theorem State.respond_roundTies (s : State) (r : Response) : (s.respond r).roundTies = s.roundTies := rfl
@[simp] theorem State.respond_abOrder (s : State) (r : Response) : (s.respond r).abOrder = s.abOrder := rfl
@[simp] theorem State.respond_freeDraws (s : State) (r : Response) : (s.respond r).freeDraws = s.freeDraws := rfl
@[simp] theorem State.respond_input (s : State) (r : Response) : (s.respond r).input = s.input := rfl
@[simp] theorem State.respond_responses (s : State) (r : Response) :
    (s.respond r).responses =
      s.responses ++ [r] :=
  rfl

@[simp] theorem State.raiseUnsupportedVariant_power (s : State) : s.raiseUnsupportedVariant.power = s.power := rfl
@[simp] theorem State.raiseUnsupportedVariant_brake (s : State) : s.raiseUnsupportedVariant.brake = s.brake := rfl
@[simp] theorem State.raiseUnsupportedVariant_hatUp (s : State) : s.raiseUnsupportedVariant.hatUp = s.hatUp := rfl
@[simp] theorem State.raiseUnsupportedVariant_hatDown (s : State) :
    s.raiseUnsupportedVariant.hatDown =
      s.hatDown :=
  rfl
@[simp] theorem State.raiseUnsupportedVariant_hatLeft (s : State) :
    s.raiseUnsupportedVariant.hatLeft =
      s.hatLeft :=
  rfl
@[simp] theorem State.raiseUnsupportedVariant_hatRight (s : State) :
    s.raiseUnsupportedVariant.hatRight =
      s.hatRight :=
  rfl
@[simp] theorem State.raiseUnsupportedVariant_hatSwitch (s : State) :
    s.raiseUnsupportedVariant.hatSwitch =
      s.hatSwitch :=
  rfl
@[simp] theorem State.raiseUnsupportedVariant_buttons (s : State) :
    s.raiseUnsupportedVariant.buttons =
      s.buttons :=
  rfl
@[simp] theorem State.raiseUnsupportedVariant_model (s : State) : s.raiseUnsupportedVariant.model = s.model := rfl
@[simp] theorem State.raiseUnsupportedVariant_roundTies (s : State) :
    s.raiseUnsupportedVariant.roundTies =
      s.roundTies :=
  rfl
@[simp] theorem State.raiseUnsupportedVariant_abOrder (s : State) :
    s.raiseUnsupportedVariant.abOrder =
      s.abOrder :=
  rfl
@[simp] theorem State.raiseUnsupportedVariant_freeDraws (s : State) :
    s.raiseUnsupportedVariant.freeDraws =
      s.freeDraws + 1 :=
  rfl
@[simp] theorem State.raiseUnsupportedVariant_input (s : State) : s.raiseUnsupportedVariant.input = s.input := rfl
@[simp] theorem State.raiseUnsupportedVariant_responses (s : State) :
    s.raiseUnsupportedVariant.responses =
      s.responses ++ [.report Config.errIoError (freeReportBuf s.freeDraws)] :=
  rfl

end Sys2Proof.Machine
end

