-- ==== Sys2Proof/Laws/Ops.lean ====
section
/-! SUPPORT. What each shared operation can do, said once; and what one step can do. -/

namespace Sys2Proof.Laws

open Sys2Proof.Machine

/-! ### The hat recomputation -/

/-- After `UpdateHat` the code is the encoder's output for the flags, whatever it was (10 R25). -/
@[simp] theorem updateHat_hatCode (s : State) : s.updateHat.hatCode = s.hatCode := rfl

@[simp] theorem updateHat_idem (s : State) : s.updateHat.updateHat = s.updateHat := rfl

theorem updateHat_fresh (s : State) : s.updateHat.HatFresh := Or.inl rfl

/-- The encoder answers a compass code or neutral (40 R93). -/
theorem hatenc_toNat_le (up down left right : Bool) : (hatenc up down left right).toNat ≤ 8 := by
  cases up <;> cases down <;> cases left <;> cases right <;> decide

theorem hatCode_toNat_le (s : State) : s.hatCode.toNat ≤ 8 := by
  have h := hatenc_toNat_le s.hatUp s.hatDown s.hatLeft s.hatRight
  simp only [State.hatCode, BitVec.toNat_setWidth]
  exact le_trans (Nat.mod_le _ _) h

/-! ### Buttons -/

/-- Every button is one of bits 5:0 (10 R27). -/
theorem buttonBit_lt (order : AbOrder) (button : Button) : buttonBit order button < 6 := by
  cases order <;> cases button <;> decide

/-- Two buttons never share a bit. -/
theorem buttonBit_inj (order : AbOrder) (x y : Button) (h : buttonBit order x = buttonBit order y) : x = y := by
  cases order <;> cases x <;> cases y <;> first | rfl | exact absurd h (by decide)

theorem buttonMask_getLsbD (order : AbOrder) (button : Button) (k : Nat) :
    (buttonMask order button).getLsbD k = decide (k = buttonBit order button) := by
  have h := buttonBit_lt order button
  have e : ∀ n, (1#8).getLsbD n = decide (n = 0) := by
    intro n
    by_cases h0 : n = 0 <;> simp [h0]
  simp only [buttonMask, BitVec.getLsbD_shiftLeft]
  rw [show ((1 : Byte)) = 1#8 from rfl, e]
  by_cases hk : k = buttonBit order button
  · subst hk
    simp
    omega
  · simp [hk]
    omega

/-- Reading the buttons after one is written: that one reads what was written, the others as before. -/
theorem readButton_writeButton (s : State) (x y : Button) (on : Bool) :
    (s.writeButton x on).readButton y = if y = x then on else s.readButton y := by
  have hx := buttonBit_lt s.abOrder x
  have hy := buttonBit_lt s.abOrder y
  have hinj := buttonBit_inj s.abOrder y x
  cases on
  · by_cases h : y = x
    · subst h
      simp [State.readButton, buttonMask_getLsbD]
    · have hne : ¬ buttonBit s.abOrder y = buttonBit s.abOrder x := fun hb => h (hinj hb)
      simp [State.readButton, buttonMask_getLsbD, hne, h]
      intro _
      omega
  · by_cases h : y = x
    · subst h
      simp [State.readButton, buttonMask_getLsbD]
    · have hne : ¬ buttonBit s.abOrder y = buttonBit s.abOrder x := fun hb => h (hinj hb)
      simp [State.readButton, buttonMask_getLsbD, hne, h]

/-- A button's mask lies in bits 5:0. -/
theorem buttonMask_unused (order : AbOrder) (button : Button) : buttonMask order button &&& 0xC0 = 0 := by
  cases order <;> cases button <;> decide

/-- Writing a button leaves the unused bits 7:6 as they were (10 R28). -/
theorem writeButton_unused (s : State) (button : Button) (on : Bool) (h : s.buttons &&& 0xC0 = 0) :
    (s.writeButton button on).buttons &&& 0xC0 = 0 := by
  have m := buttonMask_unused s.abOrder button
  cases on
  · simp only [State.writeButton_buttons, Bool.false_eq_true, if_false]
    rw [BitVec.and_assoc, BitVec.and_comm (~~~_), ← BitVec.and_assoc, h]
    exact BitVec.zero_and
  · simp only [State.writeButton_buttons, if_true]
    have e : ∀ a b c : Byte, (a ||| b) &&& c = (a &&& c) ||| (b &&& c) := by
      intro a b c
      ext i
      simp [Bool.and_or_distrib_right]
    rw [e, h, m]
    rfl

/-! ### `REPORT` -/

/-- What the dispatch of `REPORT` does: one response, and for `Ryojouhen` one draw of a buffer; no register changes. -/
theorem respondByModel_cases (s : State) :
    (s.model = .type2 ∧
      s.respondByModel = s.respond (.report 6 (serT2 s.brake s.power s.hatSwitch s.buttons))) ∨
    (s.model = .shinkansen ∧
      s.respondByModel = s.respond (.report 6 (serSK s.brake s.power s.hatSwitch s.buttons))) ∨
    (s.model = .ryojouhen ∧ s.respondByModel = s.raiseUnsupportedVariant) := by
  cases h : s.model
  · exact .inl ⟨rfl, by simp only [State.respondByModel, h]; rfl⟩
  · exact .inr (.inl ⟨rfl, by simp only [State.respondByModel, h]; rfl⟩)
  · exact .inr (.inr ⟨rfl, by simp only [State.respondByModel, h]⟩)

/-- The dispatch after the hat recomputation, by model. -/
theorem respondByModel_type2 {s : State} (h : s.model = .type2) :
    s.updateHat.respondByModel = s.updateHat.respondType2 := by
  simp only [State.respondByModel, State.updateHat_model, h]

theorem respondByModel_shinkansen {s : State} (h : s.model = .shinkansen) :
    s.updateHat.respondByModel = s.updateHat.respondShinkansen := by
  simp only [State.respondByModel, State.updateHat_model, h]

theorem respondByModel_ryojouhen {s : State} (h : s.model = .ryojouhen) :
    s.updateHat.respondByModel = s.updateHat.raiseUnsupportedVariant := by
  simp only [State.respondByModel, State.updateHat_model, h]

/-- The error length is negative, and nothing more is known of it (60 R201). -/
theorem errIoError_neg : Config.errIoError < 0 := by
  unfold Config.errIoError
  omega

/-! ### One step and a run -/

/-- A run of one step more: the step, then the rest. -/
theorem run_succ (n : Nat) (s t : State) (h : step s = .next t) :
    Host.Core.run Sys2Proof.core (n + 1) s = Host.Core.run Sys2Proof.core n t := by
  have e : Host.Core.step Sys2Proof.core s = .next t := h
  simp only [Host.Core.run, e]

@[simp] theorem runInstrs_nil (s : State) : runInstrs [] s = .next s := rfl

theorem runInstrs_cons {i : Instr} {s t : State} (is : List Instr) (h : exec i s = .next t) :
    runInstrs (i :: is) s = runInstrs is t := by
  simp only [runInstrs, h]

/-- What taking the next instruction does: it only shortens the input. -/
theorem fetch_ok {s t : State} {i : Instr} (h : s.fetch = .ok (i, t)) :
    ∃ rest, decode s.input = .ok (i, rest) ∧ t = { s with input := rest } := by
  unfold State.fetch at h
  split at h
  · next j rest hd =>
    obtain ⟨rfl, rfl⟩ := Prod.mk.inj (Except.ok.inj h)
    exact ⟨rest, hd, rfl⟩
  · cases h

/-- If a step goes on, it ran an instruction it took off the input, or nothing was presented and nothing changed. -/
theorem step_cases {s t : State} (h : step s = .next t) :
    (∃ i rest, decode s.input = .ok (i, rest) ∧ exec i { s with input := rest } = .next t) ∨
      (decode s.input = .error .noInput ∧ t = s) := by
  unfold step at h
  split at h
  · next i u hf =>
    obtain ⟨rest, hd, rfl⟩ := fetch_ok hf
    exact .inl ⟨i, rest, hd, h⟩
  · next e hf =>
    refine .inr ?_
    unfold State.fetch at hf
    split at hf
    · cases hf
    · next e' hd =>
      cases hf
      cases e <;> simp only [State.noInstruction] at h <;> cases h
      exact ⟨hd, rfl⟩

end Sys2Proof.Laws
end

