-- ==== Sys2Proof/Laws/PerInstr.lean ====
section
/-! SUPPORT. What is proved of each instruction on its own: every command has one length (30 R76). -/

namespace Sys2Proof.Laws

/-- An instruction's items are as many as its command's one length says (30 R61, R76). -/
def EncodedLength.Statement (i : Instr) : Prop := (encode i).length = i.itemCount

theorem EncodedLength.getPower : EncodedLength.Statement .getPower := rfl
theorem EncodedLength.getBrake : EncodedLength.Statement .getBrake := rfl
theorem EncodedLength.getHatUp : EncodedLength.Statement .getHatUp := rfl
theorem EncodedLength.getHatRight : EncodedLength.Statement .getHatRight := rfl
theorem EncodedLength.getHatDown : EncodedLength.Statement .getHatDown := rfl
theorem EncodedLength.getHatLeft : EncodedLength.Statement .getHatLeft := rfl
theorem EncodedLength.getButtonB : EncodedLength.Statement .getButtonB := rfl
theorem EncodedLength.getButtonA : EncodedLength.Statement .getButtonA := rfl
theorem EncodedLength.getButtonC : EncodedLength.Statement .getButtonC := rfl
theorem EncodedLength.getButtonD : EncodedLength.Statement .getButtonD := rfl
theorem EncodedLength.getSelect : EncodedLength.Statement .getSelect := rfl
theorem EncodedLength.getStart : EncodedLength.Statement .getStart := rfl
theorem EncodedLength.getUnknown (idx : Nat) : EncodedLength.Statement (.getUnknown idx) := rfl
theorem EncodedLength.setPower (v : Value) : EncodedLength.Statement (.setPower v) := rfl
theorem EncodedLength.setBrake (v : Value) : EncodedLength.Statement (.setBrake v) := rfl
theorem EncodedLength.setHatUp (v : Value) : EncodedLength.Statement (.setHatUp v) := rfl
theorem EncodedLength.setHatRight (v : Value) : EncodedLength.Statement (.setHatRight v) := rfl
theorem EncodedLength.setHatDown (v : Value) : EncodedLength.Statement (.setHatDown v) := rfl
theorem EncodedLength.setHatLeft (v : Value) : EncodedLength.Statement (.setHatLeft v) := rfl
theorem EncodedLength.setButtonB (v : Value) : EncodedLength.Statement (.setButtonB v) := rfl
theorem EncodedLength.setButtonA (v : Value) : EncodedLength.Statement (.setButtonA v) := rfl
theorem EncodedLength.setButtonC (v : Value) : EncodedLength.Statement (.setButtonC v) := rfl
theorem EncodedLength.setButtonD (v : Value) : EncodedLength.Statement (.setButtonD v) := rfl
theorem EncodedLength.setSelect (v : Value) : EncodedLength.Statement (.setSelect v) := rfl
theorem EncodedLength.setStart (v : Value) : EncodedLength.Statement (.setStart v) := rfl
theorem EncodedLength.setUnknown (idx : Nat) (v : Value) : EncodedLength.Statement (.setUnknown idx v) := rfl
theorem EncodedLength.reset : EncodedLength.Statement .reset := rfl
theorem EncodedLength.report : EncodedLength.Statement .report := rfl
theorem EncodedLength.save : EncodedLength.Statement .save := rfl
theorem EncodedLength.load (p : Byte) (b : Byte) : EncodedLength.Statement (.load p b) := rfl
theorem EncodedLength.reportType2 : EncodedLength.Statement .reportType2 := rfl
theorem EncodedLength.reportShinkansen : EncodedLength.Statement .reportShinkansen := rfl
theorem EncodedLength.reportRyojouhen : EncodedLength.Statement .reportRyojouhen := rfl
theorem EncodedLength.reserved (header : Byte) : EncodedLength.Statement (.reserved header) := rfl
theorem EncodedLength.hatenc (up : Bool) (down : Bool) (left : Bool) (right : Bool) : EncodedLength.Statement (.hatenc up down left right) := rfl
theorem EncodedLength.quantT2P (x : Byte) : EncodedLength.Statement (.quantT2P x) := rfl
theorem EncodedLength.quantT2B (x : Byte) : EncodedLength.Statement (.quantT2B x) := rfl
theorem EncodedLength.quantSKP (x : Byte) : EncodedLength.Statement (.quantSKP x) := rfl
theorem EncodedLength.quantSKB (x : Byte) : EncodedLength.Statement (.quantSKB x) := rfl
theorem EncodedLength.remapT2 (b : Byte) : EncodedLength.Statement (.remapT2 b) := rfl
theorem EncodedLength.remapSK (b : Byte) : EncodedLength.Statement (.remapSK b) := rfl
theorem EncodedLength.serT2 (brake : Byte) (power : Byte) (hat : Byte) (buttons : Byte) : EncodedLength.Statement (.serT2 brake power hat buttons) := rfl
theorem EncodedLength.serSK (brake : Byte) (power : Byte) (hat : Byte) (buttons : Byte) : EncodedLength.Statement (.serSK brake power hat buttons) := rfl

end Sys2Proof.Laws
end

