-- ==== Sys2Proof/Laws/Units.lean ====
section
/-! SUPPORT. What the lookup and the remapper answer, said once. -/

namespace Sys2Proof.Laws

open Sys2Proof.Machine

/-- A scan over pairs that end in threshold 0 finds one (41 R101, R102). -/
theorem scanPairs_finds (pairs : List (Byte × Byte)) (x out : Byte) :
    ∃ o, scanPairs (pairs ++ [(0, out)]) x = some o := by
  induction pairs with
  | nil => exact ⟨out, by simp [scanPairs]⟩
  | cons p rest ih =>
    obtain ⟨threshold, output⟩ := p
    by_cases h : threshold ≤ x
    · exact ⟨output, by simp [scanPairs, h]⟩
    · obtain ⟨o, ho⟩ := ih
      exact ⟨o, by simpa [scanPairs, h] using ho⟩

/-- Every table ends in threshold 0 (41 R101). -/
theorem romPairs_ends_in_zero (t : NotchTable) : ∃ pairs out, romPairs t = pairs ++ [(0, out)] := by
  cases t
  · exact ⟨(romPairs .t2p).dropLast, 0x81, rfl⟩
  · exact ⟨(romPairs .t2b).dropLast, 0x79, rfl⟩
  · exact ⟨(romPairs .skp).dropLast, 0x12, rfl⟩
  · exact ⟨(romPairs .skb).dropLast, 0x1C, rfl⟩

/-- The lookup is the scan's answer; the default is never taken. -/
theorem scanPairs_eq_quant (t : NotchTable) (x : Byte) : scanPairs (romPairs t) x = some (quant t x) := by
  obtain ⟨pairs, out, h⟩ := romPairs_ends_in_zero t
  obtain ⟨o, ho⟩ := scanPairs_finds pairs x out
  rw [← h] at ho
  simp [quant, ho]

/-- What the scan answers is the output of a pair whose threshold is at most the input. -/
theorem scanPairs_mem {pairs : List (Byte × Byte)} {x o : Byte} (h : scanPairs pairs x = some o) :
    ∃ threshold, (threshold, o) ∈ pairs ∧ threshold ≤ x := by
  induction pairs with
  | nil => cases h
  | cons p rest ih =>
    obtain ⟨threshold, output⟩ := p
    by_cases hle : threshold ≤ x
    · simp only [scanPairs, hle, if_true] at h
      cases h
      exact ⟨threshold, by simp, hle⟩
    · simp only [scanPairs, hle, if_false] at h
      obtain ⟨th, hm, hx⟩ := ih h
      exact ⟨th, by simp [hm], hx⟩

/-- The formula of `REMAP_SK` bit by bit (42 R123): each output bit is one input bit. -/
theorem remapSK_bits (b : Byte) :
    (remapSK b).getLsbD 0 = b.getLsbD 3 ∧ (remapSK b).getLsbD 1 = b.getLsbD 2 ∧
      (remapSK b).getLsbD 2 = b.getLsbD 0 ∧ (remapSK b).getLsbD 3 = b.getLsbD 1 ∧
      (remapSK b).getLsbD 4 = b.getLsbD 4 ∧ (remapSK b).getLsbD 5 = b.getLsbD 5 ∧
      (remapSK b).getLsbD 6 = false ∧ (remapSK b).getLsbD 7 = false := by
  refine ⟨?_, ?_, ?_, ?_, ?_, ?_, ?_, ?_⟩ <;>
    simp [remapSK]

end Sys2Proof.Laws
end

