-- ==== Sys2Proof/Machine/Assembler.lean ====
section
/-! DEFINITION. The textual syntax of commands: one command a line, `;` begins a comment, the strap stands once in front
of a program (30 R78). A line is a list of characters. There are no pseudo-instructions (R79). -/

namespace Sys2Proof.Machine

/-! ### Words of a line -/

/-- The line without its comment. -/
def withoutComment : List Char → List Char
  | [] => []
  | c :: rest => if c = ';' then [] else c :: withoutComment rest

/-- A word in front of the words of the rest; an empty word is none. -/
def consWord (word : List Char) (words : List (List Char)) : List (List Char) :=
  if word = [] then words else word :: words

/-- The words of a line, with the word read so far: spaces separate, a comma is a word of its own. -/
def wordsFrom : List Char → List Char → List (List Char)
  | word, [] => consWord word []
  | word, c :: rest =>
    if c = ' ' then consWord word (wordsFrom [] rest)
    else if c = ',' then consWord word ([','] :: wordsFrom [] rest)
    else wordsFrom (word ++ [c]) rest

/-- The words of a line. -/
def wordsOf (line : List Char) : List (List Char) := wordsFrom [] (withoutComment line)

/-! ### Numbers -/

/-- A digit of a base up to 16. -/
def digitOf (base : Nat) (c : Char) : Option Nat :=
  let n := c.toNat
  let d :=
    if 48 ≤ n ∧ n ≤ 57 then n - 48
    else if 65 ≤ n ∧ n ≤ 70 then n - 55
    else if 97 ≤ n ∧ n ≤ 102 then n - 87
    else base
  if d < base then some d else none

/-- A run of digits onto a number read so far. -/
def digitsFrom (base : Nat) : Nat → List Char → Option Nat
  | acc, [] => some acc
  | acc, c :: rest =>
    match digitOf base c with
    | some d => digitsFrom base (acc * base + d) rest
    | none => none

/-- A natural number, at least one decimal digit. -/
def natOf (word : List Char) : Option Nat := if word = [] then none else digitsFrom 10 0 word

/-- The word before the first such character, and the word after it where there is one. -/
def splitAtChar (c : Char) : List Char → List Char × Option (List Char)
  | [] => ([], none)
  | d :: rest =>
    if d = c then ([], some rest)
    else
      match splitAtChar c rest with
      | (before, after) => (d :: before, after)

/-- A value without its sign: a fraction, a decimal or an integer. -/
def unsignedValueOf (word : List Char) : Option Value :=
  match splitAtChar '/' word, splitAtChar '.' word with
  | (n, some d), _ =>
    match natOf n, natOf d with
    | some n, some d => if d = 0 then none else some ((n : Rat) / (d : Rat))
    | _, _ => none
  | _, (n, some d) =>
    match natOf n, natOf d with
    | some n, some k => some ((n : Rat) + (k : Rat) / (10 : Rat) ^ d.length)
    | _, _ => none
  | (n, none), (_, none) =>
    match natOf n with
    | some n => some (n : Rat)
    | none => none

/-- `<value>`: a decimal, a fraction or an integer, with a minus sign where it is negative. -/
def valueOf : List Char → Option Value
  | '-' :: word => (unsignedValueOf word).map fun v => -v
  | word => unsignedValueOf word

/-- `<byte>`: `0x` and two hexadecimal digits. -/
def byteOf : List Char → Option Byte
  | ['0', 'x', h, l] => (digitsFrom 16 0 [h, l]).map fun n => BitVec.ofNat 8 n
  | _ => none

/-! ### Names -/

/-- The names of the twelve bindings, in the order of their indices (R64). -/
def bindingNames : List (List Char) :=
  [['P', 'o', 'w', 'e', 'r'], ['B', 'r', 'a', 'k', 'e'], ['H', 'a', 't', 'U', 'p'],
    ['H', 'a', 't', 'R', 'i', 'g', 'h', 't'], ['H', 'a', 't', 'D', 'o', 'w', 'n'], ['H', 'a', 't', 'L', 'e', 'f', 't'],
    ['B', 'u', 't', 't', 'o', 'n', 'B'], ['B', 'u', 't', 't', 'o', 'n', 'A'], ['B', 'u', 't', 't', 'o', 'n', 'C'],
    ['B', 'u', 't', 't', 'o', 'n', 'D'], ['S', 'e', 'l', 'e', 'c', 't'], ['S', 't', 'a', 'r', 't']]

/-- `<binding>`: one of the twelve names, or `#n` for the index `n`. -/
def bindingOf : List Char → Option Nat
  | '#' :: word => natOf word
  | word => bindingNames.idxOf? word

/-- The name of a model. -/
def modelNameOf (word : List Char) : Option Model :=
  if word = ['T', 'y', 'p', 'e', '2'] then some .type2
  else if word = ['S', 'h', 'i', 'n', 'k', 'a', 'n', 's', 'e', 'n'] then some .shinkansen
  else if word = ['R', 'y', 'o', 'j', 'o', 'u', 'h', 'e', 'n'] then some .ryojouhen
  else none

/-! ### Lines and programs -/

/-- The command a line's words spell. -/
def commandOfWords : List (List Char) → Option Instr
  | [['G', 'E', 'T'], b] => (bindingOf b).map getCommand
  | [['S', 'E', 'T'], b, [','], v] =>
    match bindingOf b, valueOf v with
    | some idx, some v => some (setCommand idx v)
    | _, _ => none
  | [['R', 'E', 'S', 'E', 'T']] => some .reset
  | [['R', 'E', 'P', 'O', 'R', 'T']] => some .report
  | [['S', 'A', 'V', 'E']] => some .save
  | [['L', 'O', 'A', 'D'], p, [','], b] =>
    match byteOf p, byteOf b with
    | some p, some b => some (.load p b)
    | _, _ => none
  | _ => none

/-- The command a line spells, none where it spells none. -/
def commandOfLine (line : List Char) : Option Instr := commandOfWords (wordsOf line)

/-- The commands of a program's lines; a line with no word is none. -/
def commandsOf : List (List Char) → Option (List Instr)
  | [] => some []
  | line :: rest =>
    if wordsOf line = [] then commandsOf rest
    else
      match commandOfLine line, commandsOf rest with
      | some i, some is => some (i :: is)
      | _, _ => none

/-- A program: the strap's line `MODEL = …`, then one command a line (R78). -/
def programOf : List (List Char) → Option (Model × List Instr)
  | [] => none
  | line :: rest =>
    match wordsOf line with
    | [['M', 'O', 'D', 'E', 'L'], ['='], m] =>
      match modelNameOf m, commandsOf rest with
      | some m, some is => some (m, is)
      | _, _ => none
    | _ => none

end Sys2Proof.Machine
end

