-- ==== Sys2Proof/Tests/Slice0.lean ====
section
/-! SUPPORT. The model's own tests: ill-formed terms, words written out from 30 R61 to R77, one-step vectors of 95, and
for each statement with hypotheses a state and operands that meet them. -/

namespace Sys2Proof.Tests

open Sys2Proof.Machine

/-- A state as 95 writes it: `power brake | up down left right | hatSwitch | buttons`. -/
def at_ (m : Model) (power brake : Byte) (up down left right : Bool) (hat buttons : Byte) : State :=
  { State.instantiate m with
    power := power, brake := brake, hatUp := up, hatDown := down, hatLeft := left, hatRight := right
    hatSwitch := hat, buttons := buttons }

/-- The next state of an outcome, where there is one. -/
def after : Host.Outcome State Fault Refusal → Option State
  | .next t => some t
  | .fault _ => none
  | .refused _ => none

/-- The last response of an outcome's next state. -/
def answer (o : Host.Outcome State Fault Refusal) : Option Response := (after o).bind fun t => t.responses.getLast?

/-- The instruction decoded from some port items. -/
def read (items : List PortItem) : Option (Instr × List PortItem) :=
  match decode items with
  | .ok r => some r
  | .error _ => none

/-! ### Well-formedness -/

theorem test_wf_getUnknown : (Instr.getUnknown 11).wf = false ∧ (Instr.getUnknown 12).wf = true := by decide
theorem test_wf_setUnknown : (Instr.setUnknown 3 1).wf = false ∧ (Instr.setUnknown 12 1).wf = true := by decide
theorem test_wf_reserved : (Instr.reserved 0x5F).wf = false ∧ (Instr.reserved 0x60).wf = true := by decide
theorem test_encodable_getUnknown :
    (Instr.getUnknown 16).encodable = false ∧ (Instr.getUnknown 15).encodable = true := by decide
theorem test_encodable_setUnknown :
    (Instr.setUnknown 16 0).encodable = false ∧ (Instr.setUnknown 15 0).encodable = true := by decide

/-! ### Words (30 R62, R64, R77) -/

theorem test_decode_get :
    [0x00, 0x01, 0x02, 0x03, 0x04, 0x05, 0x06, 0x07, 0x08, 0x09, 0x0A, 0x0B, 0x0C, 0x0F].map
        (fun h : Byte => (read [.byte h]).map Prod.fst) =
      [some .getPower, some .getBrake, some .getHatUp, some .getHatRight, some .getHatDown, some .getHatLeft,
        some .getButtonB, some .getButtonA, some .getButtonC, some .getButtonD, some .getSelect, some .getStart,
        some (.getUnknown 12), some (.getUnknown 15)] := by decide +kernel

theorem test_decode_set :
    [0x10, 0x11, 0x12, 0x13, 0x14, 0x15, 0x16, 0x17, 0x18, 0x19, 0x1A, 0x1B, 0x1C, 0x1F].map
        (fun h : Byte => (read [.byte h, .value (1 / 2)]).map Prod.fst) =
      [some (.setPower (1 / 2)), some (.setBrake (1 / 2)), some (.setHatUp (1 / 2)), some (.setHatRight (1 / 2)),
        some (.setHatDown (1 / 2)), some (.setHatLeft (1 / 2)), some (.setButtonB (1 / 2)),
        some (.setButtonA (1 / 2)), some (.setButtonC (1 / 2)), some (.setButtonD (1 / 2)),
        some (.setSelect (1 / 2)), some (.setStart (1 / 2)), some (.setUnknown 12 (1 / 2)),
        some (.setUnknown 15 (1 / 2))] := by decide +kernel

theorem test_decode_commands :
    read [.byte 0x20, .byte 0x30] = some (.reset, [.byte 0x30]) ∧ read [.byte 0x3A] = some (.report, []) ∧
      read [.byte 0x40] = some (.save, []) ∧
      read [.byte 0x50, .byte 0x33, .byte 0xB3, .byte 0x40] = some (.load 0x33 0xB3, [.byte 0x40]) := by
  decide +kernel

/-- The three rows of `REPORT` by model and the reserved row are words `0x30` and `0x60` to `0xFF` (R74, R76). -/
theorem test_decode_report_rows_and_reserved :
    encode .reportType2 = [.byte 0x30] ∧ encode .reportShinkansen = [.byte 0x30] ∧
      encode .reportRyojouhen = [.byte 0x30] ∧ decode [.byte 0x60] = .error (.reservedHeader 0x60) ∧
      decode [.byte 0xFF] = .error (.reservedHeader 0xFF) := ⟨rfl, rfl, rfl, rfl, rfl⟩

theorem test_decode_units :
    read [.hatencPort 0b1001] = some (.hatenc true false false true, []) ∧
      read [.quantPort 0b0011110111] = some (.quantT2P 0xF7, []) ∧
      read [.quantPort 0b0111110111] = some (.quantT2B 0xF7, []) ∧
      read [.quantPort 0b1011110111] = some (.quantSKP 0xF7, []) ∧
      read [.quantPort 0b1111110111] = some (.quantSKB 0xF7, []) ∧
      read [.remapPort 0b000000010] = some (.remapT2 0x02, []) ∧
      read [.remapPort 0b100000010] = some (.remapSK 0x02, []) ∧
      read [.serPort 0x022270601] = some (.serT2 0x22 0x27 0x06 0x01, []) ∧
      read [.serPort 0x122270601] = some (.serSK 0x22 0x27 0x06 0x01, []) := by decide +kernel

theorem test_tableWord :
    decodeTableWord 8 0x0B = some .getStart ∧ decodeTableWord 8 0x11 = some (.setBrake 0) ∧
      decodeTableWord 8 0x50 = some (.load 0 0) ∧ decodeTableWord 24 0xFF3350 = some (.load 0x33 0xFF) ∧
      decodeTableWord 10 0x1F8 = some (.quantT2B 0xF8) ∧ decodeTableWord 8 0x60 = none := by decide +kernel

theorem test_withFetchWord :
    after (step (State.reset.withFetchWord 8 0x30)) = after (exec .report State.reset) ∧
      answer (step (State.reset.withFetchWord 8 0x01)) = some (.value 0) := by decide +kernel

/-! ### Text (30 R78) -/

theorem test_line_set :
    commandOfLine ['S', 'E', 'T', ' ', 'P', 'o', 'w', 'e', 'r', ',', ' ', '0', '.', '2', ' ', ';', 'x'] =
      some (.setPower (1 / 5)) := by decide +kernel
theorem test_line_get_unknown :
    commandOfLine ['G', 'E', 'T', ' ', '#', '1', '2'] = some (.getUnknown 12) := by decide +kernel
theorem test_line_load :
    commandOfLine ['L', 'O', 'A', 'D', ' ', '0', 'x', '3', '3', ',', ' ', '0', 'x', 'F', 'F'] =
      some (.load 0x33 0xFF) := by decide +kernel
theorem test_program :
    programOf [['M', 'O', 'D', 'E', 'L', ' ', '=', ' ', 'T', 'y', 'p', 'e', '2'], [' ', ';', 'x'],
      ['R', 'E', 'P', 'O', 'R', 'T']] = some (.type2, [.report]) := by decide +kernel

/-! ### One-step vectors (95) -/

/-- V-G1, V-G2, V-G3, V-G4: from `80 40 | 1 1 0 0 | 0 | 21`. -/
theorem test_get_bindings :
    [Instr.getPower, .getBrake, .getHatUp, .getHatRight, .getHatDown, .getHatLeft, .getButtonB, .getButtonA,
        .getButtonC, .getButtonD, .getSelect, .getStart, .getUnknown 12].map
        (fun i => answer (exec i (at_ .type2 0x80 0x40 true true false false 0 0x21))) =
      [128 / 255, 64 / 255, 1, 0, 1, 0, 1, 0, 0, 0, 0, 1, 0].map (fun v => some (.value v)) := by decide +kernel

/-- V-G4 under `A_LOW`. -/
theorem test_get_buttons_aLow :
    [Instr.getButtonB, .getButtonA].map
        (fun i => answer (exec i { at_ .type2 0x80 0x40 true true false false 0 0x21 with abOrder := .aLow })) =
      [some (.value 0), some (.value 1)] := by decide +kernel

/-- V-W1, V-W2, V-W3. -/
theorem test_set_axes :
    after (exec (.setPower (1 / 5)) (State.instantiate .type2)) =
        some (at_ .type2 0x33 0 false false false false 0 0) ∧
      after (exec (.setBrake 2) (State.instantiate .type2)) = some (at_ .type2 0 0xFF false false false false 0 0) ∧
      after (exec (.setPower (-1)) (at_ .type2 0x80 0 false false false false 0 0)) =
        some (State.instantiate .type2) := by decide +kernel

/-- V-C: the ties, under both parameters. -/
theorem test_toRaw_ties :
    [1 / 510, 1 / 170, 3 / 10, 253 / 510, 1 / 2, 7 / 10, 509 / 510].map (toRaw .halfAway) =
        [0x01, 0x02, 0x4D, 0x7F, 0x80, 0xB3, 0xFF] ∧
      [1 / 510, 1 / 170, 3 / 10, 253 / 510, 1 / 2, 7 / 10, 509 / 510].map (toRaw .halfEven) =
        [0x00, 0x02, 0x4C, 0x7E, 0x80, 0xB2, 0xFE] := by decide +kernel

/-- V-W4 to V-W9. -/
theorem test_set_hat_flags :
    after (exec (.setHatUp (3 / 10)) (State.instantiate .type2)) =
        some (at_ .type2 0 0 true false false false 0 0) ∧
      after (exec (.setHatUp 1) (at_ .type2 0 0 false false true false 6 0)) =
        some (at_ .type2 0 0 true false true false 7 0) ∧
      after (exec (.setHatLeft 1) (at_ .type2 0 0 false false false true 2 0)) =
        some (at_ .type2 0 0 false false true true 2 0) ∧
      after (exec (.setHatDown (1 / 511)) (at_ .type2 0 0 false true false false 4 0)) =
        some (at_ .type2 0 0 false false false false 8 0) ∧
      after (exec (.setHatRight 1) (at_ .type2 0 0 true false false false 0 0)) =
        some (at_ .type2 0 0 true false false true 1 0) ∧
      after (exec (.setHatUp 0) (State.instantiate .type2)) =
        some (at_ .type2 0 0 false false false false 8 0) := by decide +kernel

/-- V-B1 to V-B7 and R177, R179. -/
theorem test_set_buttons :
    ([(.setButtonB 1, 0x20), (.setButtonA 1, 0x00), (.setButtonC (1 / 2), 0x00), (.setButtonD (49 / 100), 0x08),
        (.setButtonD (1 / 2), 0x04), (.setSelect (3 / 4), 0x00), (.setStart (1 / 4), 0x3F), (.setButtonA 0, 0x3F),
        (.setButtonB (127 / 255), 0x00), (.setUnknown 12 1, 0x2A)] : List (Instr × Byte)).map
        (fun p => (after (exec p.1 (at_ .type2 0 0 false false false false 0 p.2))).map State.buttons) =
      [0x21, 0x02, 0x04, 0x00, 0x0C, 0x10, 0x1F, 0x3D, 0x00, 0x2A].map some := by decide +kernel

/-- V-B2 and V-B6 under `A_LOW`. -/
theorem test_set_buttons_aLow :
    ([(.setButtonA 1, 0x00), (.setButtonA 0, 0x3F)] : List (Instr × Byte)).map
        (fun p => (after (exec p.1 { at_ .type2 0 0 false false false false 0 p.2 with abOrder := .aLow })).map
          State.buttons) = [some 0x01, some 0x3E] := by decide +kernel

/-- V-X1 to V-X4. -/
theorem test_reset_save_load :
    after (exec .reset (at_ .type2 0x80 0x40 true false false true 1 0x22)) =
        some (at_ .type2 0 0 true false false true 1 0x22) ∧
      after (exec .reset (State.instantiate .type2)) = some (State.instantiate .type2) ∧
      answer (exec .save (at_ .type2 0x33 0xFF false true false false 4 0x10)) = some (.snapshot 0x33 0xFF) ∧
      after (exec (.load 0x33 0xFF) (at_ .type2 0 0 false false true false 6 1)) =
        some (at_ .type2 0x33 0xFF false false true false 6 1) := by decide +kernel

/-- PRG1, PRG2, PRG3: reports of both models; the rows by model. -/
theorem test_report :
    answer (exec .report (at_ .type2 0x80 0 false false false false 8 0)) =
        some (.report 6 ⟨0x01, 0x79, 0x54, 0xFF, 0x08, 0x00⟩) ∧
      answer (exec .reportType2 (at_ .type2 0 0 false true true false 5 0x08)) =
        some (.report 6 ⟨0x01, 0x79, 0x81, 0xFF, 0x05, 0x08⟩) ∧
      answer (exec .report (at_ .shinkansen 0 0xFF true false false false 0 0x02)) =
        some (.report 6 ⟨0xFB, 0x12, 0xFF, 0x00, 0x08, 0x00⟩) ∧
      answer (exec .reportShinkansen (at_ .shinkansen 0x33 0xB3 false false false true 2 0x01)) =
        some (.report 6 ⟨0xC3, 0x36, 0xFF, 0x02, 0x04, 0x00⟩) := by decide +kernel

/-- V-E1: the hat code is recomputed, and the length is the error's. -/
theorem test_report_ryojouhen :
    (after (exec .report (State.instantiate .ryojouhen))).map State.hatSwitch = some 8 ∧
      (after (exec .reportRyojouhen (State.instantiate .ryojouhen))).map State.hatSwitch = some 8 ∧
      Config.errIoError < 0 := ⟨by decide +kernel, by decide +kernel, Laws.errIoError_neg⟩

/-- V-H1 to V-H8. -/
theorem test_hatenc :
    [hatenc false false false false, hatenc true true false false, hatenc false false true true,
        hatenc true true true true, hatenc true true true false, hatenc false true true true,
        hatenc true false true true, hatenc true true false true] = [8, 0, 2, 1, 5, 3, 1, 1] := by decide

/-- V-Q1, V-Q2, V-Q3 and two thresholds more. -/
theorem test_quant :
    [quant .t2p 0xF7, quant .t2b 0xF7, quant .skp 0xF7, quant .skb 0xF7, quant .t2b 0xE6, quant .skb 0xE6,
        quant .t2p 0x28, quant .t2p 0x27, quant .skp 0x13, quant .skb 0x5A] =
      [0x21, 0xB5, 0xFB, 0xDF, 0xB5, 0xDF, 0x6D, 0x81, 0x24, 0x70] := by decide

/-- V-R: mixed, pairs and unreachable inputs. -/
theorem test_remap :
    [0x01, 0x02, 0x04, 0x08, 0x15, 0x2A, 0x05, 0x0A, 0xFF, 0xC0].map remapSK =
        [0x04, 0x08, 0x02, 0x01, 0x16, 0x29, 0x06, 0x09, 0x3F, 0x00] ∧
      [0x2A, 0xC0].map remapT2 = [0x2A, 0xC0] := by decide

/-- V-S4, V-S5 at the ports. -/
theorem test_ser :
    answer (exec (.serT2 0xF7 0xF7 7 0x2A) State.reset) =
        some (.serialized ⟨0x01, 0xB5, 0x21, 0xFF, 0x07, 0x2A⟩ 6) ∧
      answer (exec (.serSK 0xF7 0xF7 7 0x2A) State.reset) =
        some (.serialized ⟨0xDF, 0xFB, 0xFF, 0x07, 0x29, 0x00⟩ 6) ∧
      answer (exec (.serSK 0x22 0x27 6 0x01) State.reset) =
        some (.serialized ⟨0x38, 0x36, 0xFF, 0x06, 0x04, 0x00⟩ 6) := by decide +kernel

/-- V-E5: a reserved header is refused, by the step and by the row's meaning. -/
theorem test_reserved :
    step (State.reset.withFetchWord 8 0x60) = .refused (.reservedCommand 0x60) ∧
      exec (.reserved 0xFF) State.reset = .refused (.reservedCommand 0xFF) := ⟨rfl, rfl⟩

/-! ### The hypotheses of the statements can be met -/

theorem witness_FirstReportOfAFreshInstance :
    (State.instantiate .type2).model = .type2 ∧ (State.instantiate .shinkansen).model = .shinkansen := ⟨rfl, rfl⟩

theorem witness_TheTwoScenarios : (0x00 : Byte).toNat ≤ 0x27 ∧ (0x27 : Byte).toNat ≤ 0x27 := by decide

theorem witness_UnknownIndex : (12 : Nat) ≤ 12 ∧ (12 : Nat) < 16 ∧ 12 ≤ 15 ∧ 15 < 16 ∧ 12 ≤ 16 := by decide

theorem witness_RoundGoesToTheNearestInteger :
    ((1 / 4 : Rat) - (1 / 4 : Rat).floor < 1 / 2) ∧ (1 / 2 < (3 / 4 : Rat) - (3 / 4 : Rat).floor) ∧
      ((1 / 2 : Rat) - (1 / 2 : Rat).floor = 1 / 2 ∧ (0 : Rat) ≤ 1 / 2) ∧
      ((-1 / 2 : Rat) - (-1 / 2 : Rat).floor = 1 / 2 ∧ (-1 / 2 : Rat) < 0) ∧
      toRaw .halfAway (1 / 510) ≠ toRaw .halfEven (1 / 510) ∧
      toRaw .halfAway (509 / 510) ≠ toRaw .halfEven (509 / 510) ∧ (-1 : Rat) < 0 := by decide +kernel

theorem witness_SetAxisCorners : (1 / 511 : Rat) < 1 / 510 ∧ (509 / 510 : Rat) < 1019 / 1020 := by decide +kernel

theorem witness_SetHatFlag :
    true = decide ((1 / 510 : Rat) < 1 / 510 ∨ ((1 / 510 : Rat) = 1 / 510 ∧ State.reset.roundTies = .halfAway)) ∧
      false = decide ((1 / 510 : Rat) < 1 / 511 ∨ ((1 / 511 : Rat) = 1 / 510 ∧ State.reset.roundTies = .halfAway)) := by
  decide +kernel

theorem witness_ReportByModel :
    (at_ .type2 0xFF 0 true false false false 0 1).model = .type2 ∧
      (at_ .shinkansen 0xFF 0 true false false false 0 1).model = .shinkansen ∧
      (at_ .ryojouhen 0xFF 0 true false false false 0 1).model = .ryojouhen := ⟨rfl, rfl, rfl⟩

theorem witness_ReportRepeated :
    State.reset.model ≠ .ryojouhen ∧ ∃ t, exec .report State.reset = .next t := ⟨by decide, _, rfl⟩

theorem witness_OnlyReportOnRyojouhen :
    (∃ t, exec .report (State.instantiate .ryojouhen) = .next t ∧
      ∃ len buf, .report len buf ∈ t.responses ∧ len < 0) ∧ (∃ t, exec .getPower State.reset = .next t) :=
  ⟨⟨_, rfl, Config.errIoError, freeReportBuf 0, List.mem_singleton.mpr rfl, Laws.errIoError_neg⟩, _, rfl⟩

theorem witness_NotSticky :
    (State.instantiate .ryojouhen).model = .ryojouhen ∧
      (∃ t, exec .report (State.instantiate .ryojouhen) = .next t) ∧
      (∃ u, exec .save { State.instantiate .ryojouhen with hatSwitch := (State.instantiate .ryojouhen).hatCode } =
        .next u) ∧ Instr.save.spelled ≠ .report := ⟨rfl, ⟨_, rfl⟩, ⟨_, rfl⟩, by decide⟩

theorem witness_ReportBytes :
    (at_ .type2 0xFF 0 true false false false 0 0x3F).Inv ∧
      (at_ .shinkansen 0xFF 0 false false false false 8 0x3F).Inv := by decide +kernel

theorem witness_QuantGreatest :
    (0 : Nat) < 1 ∧ romRead .t2p 0 = some (0xF8, 0x00) ∧ romRead .t2p 1 = some (0xC8, 0x21) ∧
      romRead .skb 8 = some (0x00, 0x1C) ∧ romRead .skb 9 = none := by decide

theorem witness_QuantMonotone : (0x27 : Byte) ≤ 0x28 ∧ (0 : Byte) ≤ 0xFF := by decide

theorem witness_SixBits : (0x3F : Byte).toNat ≤ 0x3F ∧ (0 : Byte).toNat ≤ 0x3F := by decide

theorem witness_DecodeOfEncode :
    ((Instr.getUnknown 15).wf = true ∧ (Instr.getUnknown 15).encodable = true ∧
        (Instr.getUnknown 15).isReserved = false) ∧
      ((Instr.serSK 1 2 3 4).wf = true ∧ (Instr.serSK 1 2 3 4).encodable = true ∧
        (Instr.serSK 1 2 3 4).isReserved = false) := by decide

theorem witness_Decoded : decode [.byte 0x2F, .byte 0x40] = .ok (.reset, [.byte 0x40]) := rfl

theorem witness_Reserved :
    0x60 ≤ (0x60 : Byte).toNat ∧ 0x60 ≤ (0xFF : Byte).toNat ∧
      ({ State.reset with input := [.byte 0x60] } : State).input = .byte 0x60 :: [] := by decide +kernel

theorem witness_StepRuns :
    decode ({ State.reset with input := [.byte 0x00, .byte 0x30] } : State).input = .ok (.getPower, [.byte 0x30]) := rfl

theorem witness_StepWithoutACommand :
    State.reset.input = [] ∧ (opField 0x10).toNat = 1 ∧ (opField 0x1F).toNat = 1 ∧ (opField 0x50).toNat = 5 ∧
      (opField 0x5F).toNat = 5 ∧
      ({ State.reset with input := [.byte 0x10] } : State).input = [.byte 0x10] ∧
      ({ State.reset with input := [.value 1] } : State).input = .value 1 :: [] ∧
      ({ State.reset with input := [.byte 0x10, .byte 0x00] } : State).input = .byte 0x10 :: .byte 0x00 :: [] ∧
      ({ State.reset with input := [.byte 0x50, .byte 0x33] } : State).input = [.byte 0x50, .byte 0x33] :=
  ⟨rfl, rfl, rfl, rfl, rfl, rfl, rfl, rfl, rfl⟩

theorem witness_EveryCommandCompletes : (Instr.getUnknown 3).isReserved = false ∧ Instr.report.isReserved = false := by
  decide

theorem witness_StepKeepsTheInvariant :
    ({ State.reset with input := [.byte 0x30] } : State).Inv ∧
      ∃ t, step { State.reset with input := [.byte 0x30] } = .next t := ⟨by decide +kernel, _, rfl⟩

theorem witness_StepKeepsTheStrap :
    ∃ t, step { State.instantiate .ryojouhen with input := [.byte 0x30] } = .next t ∧
      exec .report t ≠ .next t := ⟨_, rfl, by intro h; cases h⟩

theorem witness_Reachable :
    ∃ t, Host.Core.run Sys2Proof.core 2
      ({ State.instantiate .shinkansen with
        roundTies := .halfEven, abOrder := .aLow, input := [.byte 0x16, .value 1, .byte 0x30] } : State) = .next t :=
  ⟨_, rfl⟩

theorem witness_Writers : ∃ t, exec (.setHatUp 1) State.reset = .next t ∧ t.hatUp ≠ State.reset.hatUp :=
  ⟨_, rfl, by decide +kernel⟩

theorem witness_WritesAreIdempotent :
    (∃ idx v, Instr.setHatLeft 1 = setCommand idx v) ∧ (∃ p b, Instr.load 1 2 = .load p b) ∧
      (∃ t, exec (.setHatLeft 1) State.reset = .next t) ∧ (∃ t, exec (.load 1 2) State.reset = .next t) ∧
      ∃ t, exec .reset State.reset = .next t :=
  ⟨⟨5, 1, rfl⟩, ⟨1, 2, rfl⟩, ⟨_, rfl⟩, ⟨_, rfl⟩, _, rfl⟩

theorem witness_AxisRoundTrip :
    ((0 : Nat) ≤ 1 ∧ (1 : Nat) ≤ 1) ∧
      ((0 : Rat) ≤ 0 ∧ (0 : Rat) ≤ 1) ∧ ((0 : Rat) ≤ 1 ∧ (1 : Rat) ≤ 1) ∧ (-1 : Rat) < 0 ∧ (1 : Rat) < 2 ∧
      ∃ t, exec (getCommand 1) State.reset = .next t ∧ t.responses = State.reset.responses ++ [.value 0] :=
  ⟨by decide, by decide +kernel, by decide +kernel, by decide +kernel, by decide +kernel, _, rfl, by decide +kernel⟩

theorem witness_ResetThenGet : (∃ t, exec .reset State.reset = .next t) ∧ (1 : Nat) ≤ 1 ∧ (2 : Nat) ≤ 2 :=
  ⟨⟨_, rfl⟩, by decide, by decide⟩

theorem witness_GetIsStable :
    (∀ i ∈ [Instr.setPower 1, .reset, .report], i.writesBinding 2 = false) ∧
      ∃ t, runInstrs [.setPower 1, .reset, .report] State.reset = .next t :=
  ⟨by decide, _, rfl⟩

theorem witness_HatSwitchIsUnobservable :
    State.reset.SameButHat { State.reset with hatSwitch := 8 } ∧ (∃ t, runInstrs [.report] State.reset = .next t) ∧
      ∃ r, runInstrs [.reserved 0x60] State.reset = .refused r := ⟨rfl, ⟨_, rfl⟩, _, rfl⟩

theorem witness_PresentedCommands :
    (∀ i ∈ [Instr.setPower 1, .reportType2], i.wf = true ∧ i.encodable = true ∧ i.isReserved = false) ∧
      ({ State.reset with input := [.byte 0x10, .value 1, .byte 0x30, .byte 0x40] } : State).input =
        encodeAll [.setPower 1, .reportType2] ++ [.byte 0x40] := ⟨by decide, rfl⟩

end Sys2Proof.Tests
end

section
/-! PROOFS. `round` and what the clamp leaves of its two tie rules (00 R12). -/

namespace Sys2Proof.Proofs

open Sys2Proof.Machine Sys2Proof.Laws

/-! ### `round`: below, above and at one half -/

theorem roundRat_of_frac_lt_half (ties : RoundTies) {q : Rat} (h : q - q.floor < 1 / 2) :
    roundRat ties q = q.floor := if_pos h

theorem roundRat_of_half_lt_frac (ties : RoundTies) {q : Rat} (h : 1 / 2 < q - q.floor) :
    roundRat ties q = q.floor + 1 := by
  unfold roundRat
  rw [if_neg h.not_gt, if_pos h]

theorem roundRat_halfAway_of_tie {q : Rat} (h : q - q.floor = 1 / 2) :
    roundRat .halfAway q = if 0 ≤ q then q.floor + 1 else q.floor := by
  rw [roundRat, if_neg h.not_lt, if_neg h.not_gt]

theorem roundRat_halfEven_of_tie {q : Rat} (h : q - q.floor = 1 / 2) :
    roundRat .halfEven q = if q.floor % 2 = 0 then q.floor else q.floor + 1 := by
  rw [roundRat, if_neg h.not_lt, if_neg h.not_gt]

/-- Of the two neighbours of a tie, `ROUND_TIES = HALF_EVEN` takes the even one (00 R12). -/
theorem roundRat_halfEven_even {q : Rat} (h : q - q.floor = 1 / 2) : roundRat .halfEven q % 2 = 0 := by
  rw [roundRat_halfEven_of_tie h]
  split <;> omega

/-- `ROUND_TIES` matters at exactly one half and nowhere else. -/
theorem frac_eq_half_of_roundRat_ne {ties ties' : RoundTies} {q : Rat}
    (h : roundRat ties q ≠ roundRat ties' q) : q - q.floor = 1 / 2 := by
  rcases lt_trichotomy (q - q.floor) (1 / 2) with hlt | heq | hgt
  · exact absurd ((roundRat_of_frac_lt_half ties hlt).trans (roundRat_of_frac_lt_half ties' hlt).symm) h
  · exact heq
  · exact absurd ((roundRat_of_half_lt_frac ties hgt).trans (roundRat_of_half_lt_frac ties' hgt).symm) h

/-! ### The raw byte outside the range: both tie rules clamp to the same end -/

theorem clampInt_of_le_lo {n lo hi : Int} (h : n ≤ lo) (hle : lo ≤ hi) : clampInt n lo hi = lo := by
  unfold clampInt
  split
  · rfl
  · rw [if_neg (by omega)]
    omega

theorem clampInt_of_hi_le {n lo hi : Int} (h : hi ≤ n) (hle : lo ≤ hi) : clampInt n lo hi = hi := by
  unfold clampInt
  rw [if_neg (by omega)]
  split <;> omega

theorem toRaw_of_floor_neg (ties : RoundTies) {v : Value} (h : (v * 255).floor < 0) : toRaw ties v = 0 := by
  have hround : roundRat ties (v * 255) ≤ 0 := by
    rcases roundRat_floor_or_succ ties (v * 255) with e | e <;> omega
  rw [toRaw, clampInt_of_le_lo hround (by decide)]
  rfl

theorem toRaw_of_le_floor (ties : RoundTies) {v : Value} (h : 255 ≤ (v * 255).floor) : toRaw ties v = 255 := by
  have hround : 255 ≤ roundRat ties (v * 255) := by
    rcases roundRat_floor_or_succ ties (v * 255) with e | e <;> omega
  rw [toRaw, clampInt_of_hi_le hround (by decide)]
  rfl

/-- A negative value is clamped to 0 in both readings of `ROUND_TIES` (00 R12). -/
theorem toRaw_of_neg (ties : RoundTies) {v : Value} (h : v < 0) : toRaw ties v = 0 := by
  refine toRaw_of_floor_neg ties (Rat.floor_lt_iff.mpr ?_)
  push_cast
  linarith

/-- Where the bytes differ, the product `v * 255` is a tie (the rounded integers differ already) and its floor lies in
0 to 254 (else both are clamped to one end). -/
theorem tie_in_range_of_toRaw_ne {ties ties' : RoundTies} {v : Value} (h : toRaw ties v ≠ toRaw ties' v) :
    v * 255 - (v * 255).floor = 1 / 2 ∧ 0 ≤ (v * 255).floor ∧ (v * 255).floor ≤ 254 := by
  have hne : roundRat ties (v * 255) ≠ roundRat ties' (v * 255) := fun e => h (by rw [toRaw, e, toRaw])
  refine ⟨frac_eq_half_of_roundRat_ne hne, ?_, ?_⟩
  · by_contra hneg
    have hlt : (v * 255).floor < 0 := by omega
    exact h ((toRaw_of_floor_neg ties hlt).trans (toRaw_of_floor_neg ties' hlt).symm)
  · by_contra hbig
    have hle : 255 ≤ (v * 255).floor := by omega
    exact h ((toRaw_of_le_floor ties hle).trans (toRaw_of_le_floor ties' hle).symm)

/-- The differing points, as 00 R12 lists them: `k` is the floor of `v * 255`. -/
theorem odd_over_510_of_toRaw_ne {ties ties' : RoundTies} {v : Value} (h : toRaw ties v ≠ toRaw ties' v) :
    ∃ k : Nat, k ≤ 254 ∧ v = (2 * k + 1 : Rat) / 510 := by
  obtain ⟨htie, hlo, hhi⟩ := tie_in_range_of_toRaw_ne h
  obtain ⟨k, hk⟩ := Int.eq_ofNat_of_zero_le hlo
  rw [hk] at htie hhi
  push_cast at htie
  exact ⟨k, by omega, by linarith⟩

/-- Settles O8: the three cases of `round`, then the points where the clamped bytes of the two tie rules differ. -/
theorem roundGoesToTheNearestInteger : Obligations.RoundGoesToTheNearestInteger := by
  refine ⟨fun ties q => ⟨roundRat_of_frac_lt_half ties, roundRat_of_half_lt_frac ties⟩, ?_,
    fun v => odd_over_510_of_toRaw_ne, fun ties v => toRaw_of_neg ties⟩
  intro q htie
  refine ⟨fun hpos => ?_, fun hneg => ?_, roundRat_floor_or_succ .halfEven q, roundRat_halfEven_even htie⟩
  · rw [roundRat_halfAway_of_tie htie, if_pos hpos]
  · rw [roundRat_halfAway_of_tie htie, if_neg hneg.not_ge]

end Sys2Proof.Proofs
end

section
/-! PROOFS. A step from the decoder to the instruction's meaning (00 R7, 20 R49). -/

namespace Sys2Proof.Proofs

open Sys2Proof.Machine

/-- What the decoder reads is what the block takes, and the items it used are gone. -/
theorem fetch_of_decode {s : State} {i : Instr} {rest : List PortItem} (h : decode s.input = .ok (i, rest)) :
    s.fetch = .ok (i, { s with input := rest }) := by
  rw [State.fetch, h]

theorem step_of_fetch {s t : State} {i : Instr} (h : s.fetch = .ok (i, t)) : step s = exec i t := by
  rw [step, h]

/-- Settles O38: the decoded instruction is the fetched one, and the fetched one is run. -/
theorem stepRunsTheDecodedInstruction : Obligations.StepRunsTheDecodedInstruction :=
  fun _ _ _ h => step_of_fetch (fetch_of_decode h)

end Sys2Proof.Proofs
end

section
/-! PROOFS. What an instruction does to the registers, said once: its effect, and from that which fields it leaves
alone (10 R20, 44 R150). -/

namespace Sys2Proof.Proofs

open Sys2Proof.Machine Sys2Proof.Laws

/-! ### The four hat `SET`s and the six button `SET`s as two families -/

/-- The four hat flags (10 R23). -/
inductive HatFlag where
  | up
  | right
  | down
  | left

/-- The `SET` of a hat flag. -/
def setHat : HatFlag → Value → Instr
  | .up => .setHatUp
  | .right => .setHatRight
  | .down => .setHatDown
  | .left => .setHatLeft

/-- The write of a hat flag, before `UpdateHat`. -/
def writeHat (s : State) : HatFlag → Bool → State
  | .up => s.writeHatUp
  | .right => s.writeHatRight
  | .down => s.writeHatDown
  | .left => s.writeHatLeft

/-- The `SET` of a button. -/
def setButton : Button → Value → Instr
  | .b => .setButtonB
  | .a => .setButtonA
  | .c => .setButtonC
  | .d => .setButtonD
  | .select => .setSelect
  | .start => .setStart

section
variable (s : State) (flag : HatFlag) (f : Bool)

@[simp] theorem writeHat_power : (writeHat s flag f).power = s.power := by cases flag <;> rfl
@[simp] theorem writeHat_brake : (writeHat s flag f).brake = s.brake := by cases flag <;> rfl
@[simp] theorem writeHat_buttons : (writeHat s flag f).buttons = s.buttons := by cases flag <;> rfl
@[simp] theorem writeHat_model : (writeHat s flag f).model = s.model := by cases flag <;> rfl
@[simp] theorem writeHat_roundTies : (writeHat s flag f).roundTies = s.roundTies := by cases flag <;> rfl
@[simp] theorem writeHat_abOrder : (writeHat s flag f).abOrder = s.abOrder := by cases flag <;> rfl
@[simp] theorem writeHat_freeDraws : (writeHat s flag f).freeDraws = s.freeDraws := by cases flag <;> rfl
@[simp] theorem writeHat_input : (writeHat s flag f).input = s.input := by cases flag <;> rfl
@[simp] theorem writeHat_responses : (writeHat s flag f).responses = s.responses := by cases flag <;> rfl

end

/-! ### The meanings that share an operation -/

theorem exec_setHat (flag : HatFlag) (v : Value) (s : State) :
    exec (setHat flag v) s = .next (writeHat s flag (toFlag s.roundTies v)).updateHat := by
  cases flag <;> rfl

theorem exec_setButton (button : Button) (v : Value) (s : State) :
    exec (setButton button v) s = .next (s.writeButton button (toBit v)) := by
  cases button <;> rfl

/-- Each `REPORT` row, on whatever model, is the hat recomputation and then the dispatch (43 R140). -/
theorem exec_of_spelled_report {i : Instr} (h : i.spelled = .report) (s : State) :
    exec i s = .next s.updateHat.respondByModel := by
  cases i with
  | report => rfl
  | reportType2 => exact ite_eq_right_iff.mpr fun hm => by rw [respondByModel_type2 hm]
  | reportShinkansen => exact ite_eq_right_iff.mpr fun hm => by rw [respondByModel_shinkansen hm]
  | reportRyojouhen => exact ite_eq_right_iff.mpr fun hm => by rw [respondByModel_ryojouhen hm]
  | _ => cases h

/-! ### The effect of an instruction -/

/-- What an instruction that completes in `s` can have done: the next state, as operations over `s`. -/
inductive Effect (s : State) : Instr → State → Prop
  /-- `GET`, `SAVE` and the function units: an answer. -/
  | answer {i : Instr} (r : Response) : Effect s i (s.respond r)
  /-- `SET` of an unknown index. -/
  | nothing {i : Instr} : Effect s i s
  | setPower (v : Value) : Effect s (.setPower v) (s.writePower (toRaw s.roundTies v))
  | setBrake (v : Value) : Effect s (.setBrake v) (s.writeBrake (toRaw s.roundTies v))
  | setHat (flag : HatFlag) (v : Value) :
      Effect s (setHat flag v) (writeHat s flag (toFlag s.roundTies v)).updateHat
  | setButton (button : Button) (v : Value) : Effect s (setButton button v) (s.writeButton button (toBit v))
  | reset : Effect s .reset ((s.writePower 0).writeBrake 0)
  | load (p b : Byte) : Effect s (.load p b) ((s.writePower p).writeBrake b)
  | report {i : Instr} (r : Response) (spelled : i.spelled = .report) : Effect s i (s.updateHat.respond r)
  | unsupported {i : Instr} (spelled : i.spelled = .report) (variant : s.model = .ryojouhen) :
      Effect s i s.updateHat.raiseUnsupportedVariant

/-- `REPORT` by model: two models answer, the third raises the error (43 R141 to R143). -/
theorem report_effect {i : Instr} {s t : State} (spelled : i.spelled = .report) (h : exec i s = .next t) :
    Effect s i t := by
  rw [exec_of_spelled_report spelled] at h
  injection h with h
  subst h
  obtain ⟨-, e⟩ | ⟨-, e⟩ | ⟨variant, e⟩ := respondByModel_cases s.updateHat <;> rw [e]
  · exact .report _ spelled
  · exact .report _ spelled
  · exact .unsupported spelled variant

/-- Whatever completes had one of the effects. -/
theorem exec_effect {i : Instr} {s t : State} (h : exec i s = .next t) : Effect s i t := by
  cases i with
  | getPower | getBrake | getHatUp | getHatRight | getHatDown | getHatLeft | getButtonB | getButtonA | getButtonC
  | getButtonD | getSelect | getStart | getUnknown _ | save | hatenc _ _ _ _ | quantT2P _ | quantT2B _ | quantSKP _
  | quantSKB _ | remapT2 _ | remapSK _ | serT2 _ _ _ _ | serSK _ _ _ _ => cases h; exact .answer _
  | setUnknown idx v => cases h; exact .nothing
  | setPower v => cases h; exact .setPower v
  | setBrake v => cases h; exact .setBrake v
  | setHatUp v => cases h; exact .setHat .up v
  | setHatRight v => cases h; exact .setHat .right v
  | setHatDown v => cases h; exact .setHat .down v
  | setHatLeft v => cases h; exact .setHat .left v
  | setButtonB v => cases h; exact .setButton .b v
  | setButtonA v => cases h; exact .setButton .a v
  | setButtonC v => cases h; exact .setButton .c v
  | setButtonD v => cases h; exact .setButton .d v
  | setSelect v => cases h; exact .setButton .select v
  | setStart v => cases h; exact .setButton .start v
  | reset => cases h; exact .reset
  | load p b => cases h; exact .load p b
  | report | reportType2 | reportShinkansen | reportRyojouhen => exact report_effect rfl h
  | reserved header => cases h

/-! ### What an instruction leaves alone, field by field -/

section
variable {i : Instr} {s t : State}

/-- Nothing writes the strap, the parameters or the input (10 R29). -/
theorem exec_frame (h : exec i s = .next t) :
    t.model = s.model ∧ t.roundTies = s.roundTies ∧ t.abOrder = s.abOrder ∧ t.input = s.input := by
  cases exec_effect h <;> simp

theorem exec_power (h : exec i s = .next t) : t.power = s.power ∨ i.writesBinding 0 = true := by
  cases exec_effect h with
  | setPower v => exact .inr rfl
  | reset => exact .inr rfl
  | load p b => exact .inr rfl
  | _ => exact .inl (by simp)

theorem exec_brake (h : exec i s = .next t) : t.brake = s.brake ∨ i.writesBinding 1 = true := by
  cases exec_effect h with
  | setBrake v => exact .inr rfl
  | reset => exact .inr rfl
  | load p b => exact .inr rfl
  | _ => exact .inl (by simp)

/-- A hat flag changes only by its own `SET`. -/
theorem exec_flags (h : exec i s = .next t) :
    (t.hatUp = s.hatUp ∨ i.writesBinding 2 = true) ∧ (t.hatRight = s.hatRight ∨ i.writesBinding 3 = true) ∧
      (t.hatDown = s.hatDown ∨ i.writesBinding 4 = true) ∧ (t.hatLeft = s.hatLeft ∨ i.writesBinding 5 = true) := by
  cases exec_effect h with
  | setHat flag v => cases flag <;> simp [setHat, writeHat, Instr.writesBinding]
  | _ => simp

/-- The instruction ends by `UpdateHat` before it answers: a `REPORT` or a hat `SET` (44 R152). -/
def UpdatesHat (i : Instr) : Prop :=
  i.spelled = .report ∨ i.writesBinding 2 = true ∨ i.writesBinding 3 = true ∨ i.writesBinding 4 = true ∨
    i.writesBinding 5 = true

theorem updatesHat_setHat (flag : HatFlag) (v : Value) : UpdatesHat (setHat flag v) := by
  cases flag <;> simp [UpdatesHat, setHat, Instr.writesBinding]

/-- Either the hat code is the encoder's output afterwards, or it and all four flags are as before (10 R25). -/
theorem exec_hat (h : exec i s = .next t) :
    (t.hatSwitch = t.hatCode ∧ UpdatesHat i) ∨
      (t.hatSwitch = s.hatSwitch ∧ t.hatUp = s.hatUp ∧ t.hatDown = s.hatDown ∧ t.hatLeft = s.hatLeft ∧
        t.hatRight = s.hatRight) := by
  cases exec_effect h with
  | setHat flag v => exact .inl ⟨rfl, updatesHat_setHat flag v⟩
  | report r spelled => exact .inl ⟨rfl, .inl spelled⟩
  | unsupported spelled variant => exact .inl ⟨rfl, .inl spelled⟩
  | _ => exact .inr (by simp)

/-- A button changes only by its own `SET`. -/
theorem exec_readButton (h : exec i s = .next t) (button : Button) :
    t.readButton button = s.readButton button ∨ ∃ v, i = setButton button v := by
  cases exec_effect h with
  | setButton written v =>
    by_cases e : button = written
    · exact .inr ⟨v, by rw [e]⟩
    · exact .inl (by rw [readButton_writeButton, if_neg e])
  | _ => exact .inl (by simp [State.readButton])

/-- Clearing a button's bit clears none of bits 7:6 (10 R28). -/
theorem not_buttonMask_and_unused (order : AbOrder) (button : Button) :
    ~~~(buttonMask order button) &&& 0xC0 = 0xC0 := by
  cases order <;> cases button <;> rfl

/-- A write of a button leaves bits 7:6 as they were, set or not (10 R28). -/
theorem writeButton_and_unused (s : State) (button : Button) (on : Bool) :
    (s.writeButton button on).buttons &&& 0xC0 = s.buttons &&& 0xC0 := by
  rw [State.writeButton_buttons]
  split
  · rw [BitVec.and_comm, BitVec.and_or_distrib_left, BitVec.and_comm _ s.buttons,
      BitVec.and_comm _ (buttonMask _ _), buttonMask_unused]
    exact BitVec.or_zero
  · rw [BitVec.and_assoc, not_buttonMask_and_unused]

theorem exec_unusedButtons (h : exec i s = .next t) : t.buttons &&& 0xC0 = s.buttons &&& 0xC0 := by
  cases exec_effect h with
  | setButton button v => exact writeButton_and_unused s button _
  | _ => simp

/-- A free buffer is drawn only by a `REPORT` of `Ryojouhen` (43 R143). -/
theorem exec_freeDraws (h : exec i s = .next t) :
    t.freeDraws = s.freeDraws ∨ (i.spelled = .report ∧ s.model = .ryojouhen) := by
  cases exec_effect h with
  | unsupported spelled variant => exact .inr ⟨spelled, variant⟩
  | _ => exact .inl (by simp)

/-- No instruction takes a response back. -/
theorem exec_responses (h : exec i s = .next t) : ∃ out, t.responses = s.responses ++ out := by
  cases exec_effect h with
  | answer r => exact ⟨_, rfl⟩
  | report r spelled => exact ⟨_, rfl⟩
  | unsupported spelled variant => exact ⟨_, rfl⟩
  | _ => exact ⟨[], by simp⟩

end

/-- Settles O45: one lemma for each kind of field. -/
theorem registersChangeOnlyByTheirWriters : Obligations.RegistersChangeOnlyByTheirWriters := by
  intro i s t h
  obtain ⟨hatUp, hatRight, hatDown, hatLeft⟩ := exec_flags h
  have hatSwitch : t.hatSwitch ≠ s.hatSwitch → t.hatSwitch = t.hatCode ∧ UpdatesHat i := fun changed =>
    (exec_hat h).resolve_right fun kept => changed kept.1
  obtain ⟨model, ties, order, input⟩ := exec_frame h
  refine ⟨(exec_power h).resolve_left, (exec_brake h).resolve_left, hatUp.resolve_left, hatRight.resolve_left,
    hatDown.resolve_left, hatLeft.resolve_left, hatSwitch, fun button changed => ?_, (exec_unusedButtons h).symm,
    model, ties, order, input, (exec_freeDraws h).resolve_left⟩
  obtain ⟨v, rfl⟩ := (exec_readButton h button).resolve_left changed
  exact ⟨v, by cases button <;> rfl⟩

end Sys2Proof.Proofs
end

section
/-! PROOFS. The invariant of the registers, along every step and every run (10 R25, R28), and what a step keeps
(10 R29). -/

namespace Sys2Proof.Proofs

open Sys2Proof.Machine Sys2Proof.Laws

/-- All six registers 0 is the invariant's case of a hat code still at its instantiation value (70 R221). -/
theorem inv_of_zero {s : State} (hatUp : s.hatUp = false) (hatDown : s.hatDown = false) (hatLeft : s.hatLeft = false)
    (hatRight : s.hatRight = false) (hatSwitch : s.hatSwitch = 0) (buttons : s.buttons = 0) : s.Inv :=
  ⟨by rw [buttons]; rfl, by rw [hatSwitch]; decide, .inr ⟨hatSwitch, hatUp, hatDown, hatLeft, hatRight⟩⟩

/-- Settles O41: every register is 0. -/
theorem instantiationMeetsTheInvariant : Obligations.InstantiationMeetsTheInvariant :=
  ⟨fun _ => inv_of_zero rfl rfl rfl rfl rfl rfl, inv_of_zero rfl rfl rfl rfl rfl rfl⟩

/-- An instruction that does not recompute the hat code leaves it and the flags alone, so it is as fresh as before;
one that does makes it a compass code. -/
theorem exec_keeps_inv {i : Instr} {s t : State} (hinv : s.Inv) (h : exec i s = .next t) : t.Inv := by
  obtain ⟨unused, code, fresh⟩ := hinv
  refine ⟨(exec_unusedButtons h).trans unused, ?_⟩
  rcases exec_hat h with ⟨recomputed, -⟩ | ⟨hatSwitch, hatUp, hatDown, hatLeft, hatRight⟩
  · exact ⟨recomputed ▸ hatCode_toNat_le t, .inl recomputed⟩
  · refine ⟨hatSwitch ▸ code, ?_⟩
    simpa only [State.HatFresh, State.hatCode, hatSwitch, hatUp, hatDown, hatLeft, hatRight] using fresh

/-- Settles O42: a step that runs an instruction runs it on the same registers; one that waits changes nothing. -/
theorem stepKeepsTheInvariant : Obligations.StepKeepsTheInvariant := by
  intro s t hinv h
  rcases step_cases h with ⟨i, rest, -, hexec⟩ | ⟨-, rfl⟩
  · exact exec_keeps_inv (s := { s with input := rest }) hinv hexec
  · exact hinv

/-- What every step keeps, every run keeps. -/
theorem run_keeps {M : Host.Core} {P : M.State → Prop} (keeps : ∀ s t, P s → M.step s = .next t → P t) (n : Nat) :
    ∀ s t, P s → M.run n s = .next t → P t := by
  induction n with
  | zero =>
    intro s t hs h
    cases h
    exact hs
  | succ n ih =>
    intro s t hs h
    rw [Host.Core.run] at h
    split at h
    · next u hstep => exact ih u t (keeps s u hs hstep) h
    · cases h
    · cases h

/-- Settles O43: the invariant along the run, then one instruction more. -/
theorem reachableButtonsHaveNoUnusedBit : Obligations.ReachableButtonsHaveNoUnusedBit := by
  intro m ties order items n t h
  have hinv : t.Inv :=
    run_keeps (M := Sys2Proof.core) stepKeepsTheInvariant n _ t (inv_of_zero rfl rfl rfl rfl rfl rfl) h
  obtain ⟨unused, code, -⟩ := hinv
  exact ⟨unused, code, fun i u hexec => (exec_unusedButtons hexec).trans unused⟩

/-! ### The input -/

theorem decodeSet_suffix {idx : Nat} {items rest : List PortItem} {i : Instr}
    (h : decodeSet idx items = .ok (i, rest)) : ∃ taken, items = taken ++ rest := by
  unfold decodeSet at h
  split at h <;> cases h
  exact ⟨[_], rfl⟩

theorem decodeLoad_suffix {items rest : List PortItem} {i : Instr} (h : decodeLoad items = .ok (i, rest)) :
    ∃ taken, items = taken ++ rest := by
  unfold decodeLoad at h
  split at h <;> cases h
  exact ⟨[_, _], rfl⟩

/-- The operands of a command come off the front of the items after its header. -/
theorem decodeCommand_suffix {header : Byte} {items rest : List PortItem} {i : Instr}
    (h : decodeCommand header items = .ok (i, rest)) : ∃ taken, items = taken ++ rest := by
  unfold decodeCommand at h
  split at h
  case h_2 => exact decodeSet_suffix h
  case h_6 => exact decodeLoad_suffix h
  case h_7 => cases h
  all_goals
    cases h
    exact ⟨[], rfl⟩

/-- The decoder takes an instruction's items off the front of the items. -/
theorem decode_suffix {items rest : List PortItem} {i : Instr} (h : decode items = .ok (i, rest)) :
    ∃ taken, items = taken ++ rest := by
  cases items with
  | nil => cases h
  | cons item later =>
    cases item with
    | byte header =>
      obtain ⟨taken, rfl⟩ := decodeCommand_suffix h
      exact ⟨.byte header :: taken, rfl⟩
    | value v => cases h
    | hatencPort _ | quantPort _ | remapPort _ | serPort _ =>
      cases h
      exact ⟨[_], rfl⟩

/-- Settles O44: the decoder only takes from the front of the input, the instruction only adds to the responses. -/
theorem stepKeepsTheStrap : Obligations.StepKeepsTheStrap := by
  intro s t h
  rcases step_cases h with ⟨i, rest, hdecode, hexec⟩ | ⟨-, rfl⟩
  · obtain ⟨model, ties, order, input⟩ := exec_frame hexec
    refine ⟨model, ties, order, exec_responses (s := { s with input := rest }) hexec, ?_⟩
    rw [input]
    exact decode_suffix hdecode
  · exact ⟨rfl, rfl, rfl, ⟨[], (List.append_nil _).symm⟩, ⟨[], rfl⟩⟩

end Sys2Proof.Proofs
end

section
/-! PROOFS. `S.hatSwitch` is unobservable: no meaning reads it before writing it (10 R35). -/

namespace Sys2Proof.Proofs

open Sys2Proof.Machine Sys2Proof.Laws

theorem sameButHat_refl (s : State) : s.SameButHat s := rfl

theorem sameButHat_iff {s s' : State} : s.SameButHat s' ↔ ∃ code, s' = { s with hatSwitch := code } := by
  constructor
  · exact fun h => ⟨s'.hatSwitch, h⟩
  · rintro ⟨code, rfl⟩
    rfl

theorem responses_of_sameButHat {s s' : State} (h : s.SameButHat s') : s'.responses = s.responses := by
  obtain ⟨code, rfl⟩ := sameButHat_iff.mp h
  rfl

/-- `UpdateHat` forgets the old hat code, so after it nothing is left of the difference. -/
theorem updateHat_eq_of_sameButHat {s s' : State} (h : s.SameButHat s') : s'.updateHat = s.updateHat := by
  obtain ⟨code, rfl⟩ := sameButHat_iff.mp h
  rfl

/-- Two outcomes that agree but for the hat code: the same refusal, or next states that do. -/
inductive AgreeButHat : Host.Outcome State Fault Refusal → Host.Outcome State Fault Refusal → Prop
  | next {t t' : State} (h : t.SameButHat t') : AgreeButHat (.next t) (.next t')
  | refused (r : Refusal) : AgreeButHat (.refused r) (.refused r)

theorem next_of_agreeButHat {t : State} {o : Host.Outcome State Fault Refusal} (h : AgreeButHat (.next t) o) :
    ∃ t', o = .next t' ∧ t.SameButHat t' := by
  cases h with
  | next same => exact ⟨_, rfl, same⟩

theorem refused_of_agreeButHat {r : Refusal} {o : Host.Outcome State Fault Refusal} (h : AgreeButHat (.refused r) o) :
    o = .refused r := by
  cases h
  rfl

/-- `REPORT` recomputes the hat code first, so both sides answer from one state. -/
theorem report_agreeButHat {i : Instr} {s s' : State} (spelled : i.spelled = .report) (h : s.SameButHat s') :
    AgreeButHat (exec i s) (exec i s') := by
  rw [exec_of_spelled_report spelled, exec_of_spelled_report spelled, updateHat_eq_of_sameButHat h]
  exact .next (sameButHat_refl _)

/-- Only `REPORT` reads the hat code; every other meaning keeps it or, a hat `SET`, writes it. -/
theorem exec_agreeButHat (i : Instr) {s s' : State} (h : s.SameButHat s') : AgreeButHat (exec i s) (exec i s') := by
  cases i with
  | report | reportType2 | reportShinkansen | reportRyojouhen => exact report_agreeButHat rfl h
  | reserved header => exact .refused _
  | _ =>
    obtain ⟨code, rfl⟩ := sameButHat_iff.mp h
    exact .next rfl

theorem runInstrs_agreeButHat (is : List Instr) :
    ∀ {s s' : State}, s.SameButHat s' → AgreeButHat (runInstrs is s) (runInstrs is s') := by
  induction is with
  | nil => exact fun h => .next h
  | cons i is ih =>
    intro s s' h
    have hexec := exec_agreeButHat i h
    rw [runInstrs, runInstrs]
    generalize exec i s = o, exec i s' = o' at hexec ⊢
    cases hexec with
    | next same => exact ih same
    | refused r => exact .refused r

/-- Settles O51: the two runs agree but for the hat code, so in particular in their responses. -/
theorem hatSwitchIsUnobservable : Obligations.HatSwitchIsUnobservable := by
  intro is s s' h
  have agree := runInstrs_agreeButHat is h
  constructor
  · intro t ht
    obtain ⟨t', ht', same⟩ := next_of_agreeButHat (ht ▸ agree)
    exact ⟨t', ht', same, responses_of_sameButHat same⟩
  · intro r hr
    exact refused_of_agreeButHat (hr ▸ agree)

end Sys2Proof.Proofs
end

section
/-! PROOFS. The decoder reads back what the encoder writes, and the commands presented on the ports run in order
(20 R49, R51). -/

namespace Sys2Proof.Proofs

open Sys2Proof.Machine Sys2Proof.Laws

/-! ### The fields of the unit ports (30 R77, log 8) -/

section
variable (msel : BitVec 1) (tsel : BitVec 2) (x brake power hat buttons : Byte)

@[simp] theorem quantPort_tsel : BitVec.extractLsb' (n := 10) 8 2 (tsel ++ x) = tsel :=
  BitVec.extractLsb'_append_eq_left

@[simp] theorem quantPort_in : BitVec.extractLsb' (n := 10) 0 8 (tsel ++ x) = x :=
  BitVec.extractLsb'_append_eq_right

theorem remapPort_msel : BitVec.getLsbD (w := 9) (msel ++ x) 8 = msel.getLsbD 0 :=
  BitVec.getLsbD_append

@[simp] theorem remapPort_buttons : BitVec.extractLsb' (n := 9) 0 8 (msel ++ x) = x :=
  BitVec.extractLsb'_append_eq_right

theorem serWord_msel : (serWord msel brake power hat buttons).getLsbD 32 = msel.getLsbD 0 := by
  simp only [serWord, BitVec.getLsbD_append, Nat.reduceLT, if_false, Nat.reduceSub]

@[simp] theorem serWord_brake : (serWord msel brake power hat buttons).extractLsb' 24 8 = brake := by
  rw [serWord, BitVec.extractLsb'_append_eq_of_le (by decide), BitVec.extractLsb'_append_eq_of_le (by decide),
    BitVec.extractLsb'_append_eq_of_le (by decide)]
  exact BitVec.extractLsb'_append_eq_right

@[simp] theorem serWord_power : (serWord msel brake power hat buttons).extractLsb' 16 8 = power := by
  rw [serWord, BitVec.extractLsb'_append_eq_of_le (by decide), BitVec.extractLsb'_append_eq_of_le (by decide)]
  exact BitVec.extractLsb'_append_eq_right

@[simp] theorem serWord_hat : (serWord msel brake power hat buttons).extractLsb' 8 8 = hat := by
  rw [serWord, BitVec.extractLsb'_append_eq_of_le (by decide)]
  exact BitVec.extractLsb'_append_eq_right

@[simp] theorem serWord_buttons : (serWord msel brake power hat buttons).extractLsb' 0 8 = buttons :=
  BitVec.extractLsb'_append_eq_right

/-- `REMAP`'s port selects the form by `msel`. -/
theorem decodeRemap_append :
    decodeRemap (msel ++ x) = if msel.getLsbD 0 then .remapSK x else .remapT2 x := by
  rw [decodeRemap, remapPort_msel, remapPort_buttons]

/-- `SER`'s port selects the form by `msel`. -/
theorem decodeSer_serWord :
    decodeSer (serWord msel brake power hat buttons) =
      if msel.getLsbD 0 then .serSK brake power hat buttons else .serT2 brake power hat buttons := by
  rw [decodeSer, serWord_msel, serWord_brake, serWord_power, serWord_hat, serWord_buttons]

end

/-! ### Decode of encode -/

theorem decode_encodeGet {idx : Nat} (h : idx < 16) (rest : List PortItem) :
    decode (encodeGet idx ++ rest) = .ok (getCommand idx, rest) := by
  simp [encodeGet, decodeCommand, Nat.mod_eq_of_lt h]

theorem decode_encodeSet {idx : Nat} (h : idx < 16) (v : Value) (rest : List PortItem) :
    decode (encodeSet idx v ++ rest) = .ok (setCommand idx v, rest) := by
  simp [encodeSet, decodeCommand, decodeSet, Nat.mod_eq_of_lt h]

/-- `HATENC`'s port carries the four inputs (30 R77). -/
theorem decodeHatenc_dirOf (up down left right : Bool) :
    decodeHatenc (dirOf up down left right) = .hatenc up down left right := by
  revert up down left right
  decide

/-- The decoder reads an encodable instruction back from its items, the three `REPORT` rows as `REPORT` (30 R76). -/
theorem decode_encode {i : Instr} (wf : i.wf = true) (encodable : i.encodable = true) (spells : i.isReserved = false)
    (rest : List PortItem) : decode (encode i ++ rest) = .ok (i.spelled, rest) := by
  cases i with
  | getPower => exact decode_encodeGet (idx := 0) (by decide) rest
  | getBrake => exact decode_encodeGet (idx := 1) (by decide) rest
  | getHatUp => exact decode_encodeGet (idx := 2) (by decide) rest
  | getHatRight => exact decode_encodeGet (idx := 3) (by decide) rest
  | getHatDown => exact decode_encodeGet (idx := 4) (by decide) rest
  | getHatLeft => exact decode_encodeGet (idx := 5) (by decide) rest
  | getButtonB => exact decode_encodeGet (idx := 6) (by decide) rest
  | getButtonA => exact decode_encodeGet (idx := 7) (by decide) rest
  | getButtonC => exact decode_encodeGet (idx := 8) (by decide) rest
  | getButtonD => exact decode_encodeGet (idx := 9) (by decide) rest
  | getSelect => exact decode_encodeGet (idx := 10) (by decide) rest
  | getStart => exact decode_encodeGet (idx := 11) (by decide) rest
  | getUnknown idx =>
    have unknown := getCommand_unknown idx (of_decide_eq_true wf)
    exact (decode_encodeGet (of_decide_eq_true encodable) rest).trans (by rw [unknown]; rfl)
  | setPower v => exact decode_encodeSet (idx := 0) (by decide) v rest
  | setBrake v => exact decode_encodeSet (idx := 1) (by decide) v rest
  | setHatUp v => exact decode_encodeSet (idx := 2) (by decide) v rest
  | setHatRight v => exact decode_encodeSet (idx := 3) (by decide) v rest
  | setHatDown v => exact decode_encodeSet (idx := 4) (by decide) v rest
  | setHatLeft v => exact decode_encodeSet (idx := 5) (by decide) v rest
  | setButtonB v => exact decode_encodeSet (idx := 6) (by decide) v rest
  | setButtonA v => exact decode_encodeSet (idx := 7) (by decide) v rest
  | setButtonC v => exact decode_encodeSet (idx := 8) (by decide) v rest
  | setButtonD v => exact decode_encodeSet (idx := 9) (by decide) v rest
  | setSelect v => exact decode_encodeSet (idx := 10) (by decide) v rest
  | setStart v => exact decode_encodeSet (idx := 11) (by decide) v rest
  | setUnknown idx v =>
    have unknown := setCommand_unknown idx v (of_decide_eq_true wf)
    exact (decode_encodeSet (of_decide_eq_true encodable) v rest).trans (by rw [unknown]; rfl)
  | reset | report | save | load _ _ | reportType2 | reportShinkansen | reportRyojouhen => rfl
  | reserved header => cases spells
  | hatenc up down left right => simp [encode, decodeHatenc_dirOf, Instr.spelled]
  | quantT2P x | quantT2B x | quantSKP x | quantSKB x => simp [encode, decodeQuant, Instr.spelled]
  | remapT2 b | remapSK b => simp [encode, decodeRemap_append, Instr.spelled]
  | serT2 brake power hat buttons | serSK brake power hat buttons => simp [encode, decodeSer_serWord, Instr.spelled]

/-! ### Running the instructions a list of items spells -/

/-- An instruction and the one its word spells mean the same (log 5). -/
theorem exec_spelled (i : Instr) (s : State) : exec i.spelled s = exec i s := by
  cases i with
  | reportType2 | reportShinkansen | reportRyojouhen => exact (exec_of_spelled_report rfl s).symm
  | _ => rfl

/-- The dispatch of `REPORT` looks at the strap and the registers, not at the input (43 R140). -/
theorem respondByModel_withInput (s : State) (items : List PortItem) :
    State.respondByModel { s with input := items } = { s.respondByModel with input := items } := by
  match s with
  | { model := .type2, .. } => rfl
  | { model := .shinkansen, .. } => rfl
  | { model := .ryojouhen, .. } => rfl

/-- Every instruction but the row `(reserved)` has a meaning (44 R150). -/
theorem exec_completes {i : Instr} (spells : i.isReserved = false) (s : State) : ∃ t, exec i s = .next t := by
  cases i with
  | report | reportType2 | reportShinkansen | reportRyojouhen => exact ⟨_, exec_of_spelled_report rfl s⟩
  | reserved header => cases spells
  | _ => exact ⟨_, rfl⟩

/-- What still waits in the input makes no difference to an instruction, and stays there (20 R49). -/
theorem exec_withInput {i : Instr} {s t : State} (h : exec i s = .next t) (items : List PortItem) :
    exec i { s with input := items } = .next { t with input := items } := by
  cases i with
  | report | reportType2 | reportShinkansen | reportRyojouhen =>
    rw [exec_of_spelled_report rfl] at h ⊢
    cases h
    exact congrArg _ (respondByModel_withInput s.updateHat items)
  | reserved header => cases h
  | _ =>
    cases h
    rfl

/-- A step takes the first of the encoded instructions, whole, and leaves the items after it. -/
theorem step_of_encoded {i : Instr} {s : State} {rest : List PortItem} (wf : i.wf = true)
    (encodable : i.encodable = true) (spells : i.isReserved = false) (presented : s.input = encode i ++ rest) :
    step s = exec i { s with input := rest } := by
  have hdecode : decode s.input = .ok (i.spelled, rest) := presented ▸ decode_encode wf encodable spells rest
  rw [stepRunsTheDecodedInstruction s _ rest hdecode, exec_spelled]

/-- Settles O52, by induction on the instructions: each step is the first one's meaning, which leaves the items of the
others as they are. -/
theorem presentedCommandsRunInOrder : Obligations.PresentedCommandsRunInOrder := by
  intro is
  induction is with
  | nil =>
    intro s later _ presented
    obtain rfl : s.input = later := presented
    exact ⟨s, rfl, rfl⟩
  | cons i is ih =>
    intro s later spell presented
    obtain ⟨⟨wf, encodable, spells⟩, spell⟩ := List.forall_mem_cons.mp spell
    obtain ⟨u, hexec⟩ := exec_completes spells s
    have hinput : s.input = encode i ++ (encodeAll is ++ later) := by
      rw [presented, encodeAll, List.flatMap_cons, List.append_assoc, encodeAll]
    have hstep : step s = .next { u with input := encodeAll is ++ later } :=
      (step_of_encoded wf encodable spells hinput).trans (exec_withInput hexec _)
    obtain ⟨t, hinstrs, hsteps⟩ := ih { u with input := encodeAll is ++ later } later spell rfl
    exact ⟨t, (runInstrs_cons is (exec_withInput hexec later)).trans hinstrs,
      (run_succ is.length s _ hstep).trans hsteps⟩

end Sys2Proof.Proofs
end

section
/-! PROOFS. What repeating an instruction at once does (20 R50). -/

namespace Sys2Proof.Proofs

open Sys2Proof.Machine Sys2Proof.Laws

/-! ### `REPORT` -/

/-- A model with a serializer responds from its registers alone: having responded, it responds the same (10 R36). -/
theorem respondByModel_respond {s : State} (serializer : s.model ≠ .ryojouhen) :
    ∃ r, s.respondByModel = s.respond r ∧ (s.respond r).respondByModel = (s.respond r).respond r := by
  obtain ⟨model, e⟩ | ⟨model, e⟩ | ⟨model, -⟩ := respondByModel_cases s
  · exact ⟨_, e, by rw [State.respondByModel, State.respond_model, model]; rfl⟩
  · exact ⟨_, e, by rw [State.respondByModel, State.respond_model, model]; rfl⟩
  · exact absurd model serializer

/-- Settles O20: the second hat recomputation finds the flags of the first, and the dispatch its registers. -/
theorem reportRepeatedRespondsTheSame : Obligations.ReportRepeatedRespondsTheSame := by
  intro s t serializer h
  obtain ⟨r, first, again⟩ := respondByModel_respond (s := s.updateHat) serializer
  rw [exec_of_spelled_report rfl, first] at h
  cases h
  refine ⟨r, rfl, ?_⟩
  rw [exec_of_spelled_report rfl]
  exact congrArg _ again

/-! ### `SET`, `LOAD` and `RESET` -/

/-- A hat `SET` on the state it leaves writes the flag it holds and finds the same four flags. -/
theorem writeHat_updateHat_idem (s : State) (flag : HatFlag) (f : Bool) :
    (writeHat (writeHat s flag f).updateHat flag f).updateHat = (writeHat s flag f).updateHat := by
  cases flag <;> rfl

/-- A bit set is set again, a bit cleared is cleared again. -/
theorem writeButton_idem (s : State) (button : Button) (on : Bool) :
    (s.writeButton button on).writeButton button on = s.writeButton button on := by
  cases on with
  | true => simp [State.writeButton, BitVec.or_assoc]
  | false => simp [State.writeButton, BitVec.and_assoc]

/-- A `SET` is of a lever, of a hat flag, of a button, or of nothing (30 R64, R73). -/
theorem setCommand_cases (idx : Nat) (v : Value) :
    setCommand idx v = .setPower v ∨ setCommand idx v = .setBrake v ∨ (∃ flag, setCommand idx v = setHat flag v) ∨
      (∃ button, setCommand idx v = setButton button v) ∨ setCommand idx v = .setUnknown idx v := by
  match idx with
  | 0 => exact .inl rfl
  | 1 => exact .inr (.inl rfl)
  | 2 => exact .inr (.inr (.inl ⟨.up, rfl⟩))
  | 3 => exact .inr (.inr (.inl ⟨.right, rfl⟩))
  | 4 => exact .inr (.inr (.inl ⟨.down, rfl⟩))
  | 5 => exact .inr (.inr (.inl ⟨.left, rfl⟩))
  | 6 => exact .inr (.inr (.inr (.inl ⟨.b, rfl⟩)))
  | 7 => exact .inr (.inr (.inr (.inl ⟨.a, rfl⟩)))
  | 8 => exact .inr (.inr (.inr (.inl ⟨.c, rfl⟩)))
  | 9 => exact .inr (.inr (.inr (.inl ⟨.d, rfl⟩)))
  | 10 => exact .inr (.inr (.inr (.inl ⟨.select, rfl⟩)))
  | 11 => exact .inr (.inr (.inr (.inl ⟨.start, rfl⟩)))
  | k + 12 => exact .inr (.inr (.inr (.inr rfl)))

/-- A `SET` converts its operand by the same tie rule the second time, and stores the same. -/
theorem exec_setCommand_idem {idx : Nat} {v : Value} {s t : State} (h : exec (setCommand idx v) s = .next t) :
    exec (setCommand idx v) t = .next t := by
  obtain e | e | ⟨flag, e⟩ | ⟨button, e⟩ | e := setCommand_cases idx v <;> rw [e] at h ⊢
  · cases h; rfl
  · cases h; rfl
  · rw [exec_setHat] at h ⊢
    cases h
    rw [State.updateHat_roundTies, writeHat_roundTies, writeHat_updateHat_idem]
  · rw [exec_setButton] at h ⊢
    cases h
    rw [writeButton_idem]
  · cases h; rfl

/-- Settles O46: each write stores a value that does not depend on what it overwrites. -/
theorem writesAreIdempotent : Obligations.WritesAreIdempotent := by
  rintro i s t (⟨idx, v, rfl⟩ | ⟨p, b, rfl⟩ | rfl) h
  · exact exec_setCommand_idem h
  · cases h; rfl
  · cases h; rfl

end Sys2Proof.Proofs
end

section
/-! PROOFS. Command words and the instructions they spell: the decoder against the encoder, the ignored index field,
the reserved headers and the strap codes (30 R61 to R77). -/

namespace Sys2Proof.Proofs

open Sys2Proof.Machine Sys2Proof.Laws

/-- Settles O32: the decoder reads back what the encoder writes, row by row. -/
theorem decodeOfEncodeIsTheInstruction : Obligations.DecodeOfEncodeIsTheInstruction :=
  fun _ rest wf encodable spells => decode_encode wf encodable spells rest

/-- Settles O19: each row means what its word means, and the word of all three spells `REPORT`. -/
theorem reportRowsDoWhatTheirWordDoes : Obligations.ReportRowsDoWhatTheirWordDoes :=
  fun s => ⟨(exec_spelled .reportType2 s).symm, (exec_spelled .reportShinkansen s).symm,
    (exec_spelled .reportRyojouhen s).symm⟩

/-! ### Encode of decode: the unit ports (30 R77, log 8) -/

theorem encode_decodeHatenc (dir : BitVec 4) : encode (decodeHatenc dir) = [.hatencPort dir] := by
  revert dir
  decide

/-- `QUANT`'s port word is its fields `tsel` and `in`. -/
theorem quantPort_fields (w : BitVec 10) : w.extractLsb' 8 2 ++ w.extractLsb' 0 8 = w :=
  BitVec.extractLsb'_append_extractLsb'

/-- `REMAP`'s port word is its fields `msel` and `buttons`. -/
theorem remapPort_fields (w : BitVec 9) : w.extractLsb' 8 1 ++ w.extractLsb' 0 8 = w :=
  BitVec.extractLsb'_append_extractLsb'

/-- `SER`'s port word is its five fields. -/
theorem serPort_fields (w : BitVec 33) :
    serWord (w.extractLsb' 32 1) (w.extractLsb' 24 8) (w.extractLsb' 16 8) (w.extractLsb' 8 8) (w.extractLsb' 0 8) =
      w := by
  rw [serWord, BitVec.extractLsb'_append_extractLsb'_eq_extractLsb' (show 32 = 24 + 8 from rfl),
    BitVec.extractLsb'_append_extractLsb'_eq_extractLsb' (show 24 = 16 + 8 from rfl),
    BitVec.extractLsb'_append_extractLsb'_eq_extractLsb' (show 16 = 8 + 8 from rfl)]
  exact BitVec.extractLsb'_append_extractLsb'

theorem tsel_cases (tsel : BitVec 2) : tsel = 0 ∨ tsel = 1 ∨ tsel = 2 ∨ tsel = 3 := by
  revert tsel
  decide

theorem msel_cases (msel : BitVec 1) : msel = 0 ∨ msel = 1 := by
  revert msel
  decide

theorem encode_decodeQuant (w : BitVec 10) : encode (decodeQuant w) = [.quantPort w] := by
  rw [← quantPort_fields w]
  obtain e | e | e | e := tsel_cases (w.extractLsb' 8 2) <;> rw [e] <;> simp [decodeQuant, encode]

theorem encode_decodeRemap (w : BitVec 9) : encode (decodeRemap w) = [.remapPort w] := by
  rw [← remapPort_fields w, decodeRemap_append]
  obtain e | e := msel_cases (w.extractLsb' 8 1) <;> rw [e] <;> rfl

theorem encode_decodeSer (w : BitVec 33) : encode (decodeSer w) = [.serPort w] := by
  rw [← serPort_fields w, decodeSer_serWord]
  obtain e | e := msel_cases (w.extractLsb' 32 1) <;> rw [e] <;> rfl

/-! ### Encode of decode: the command port (30 R61, R62, R64) -/

/-- A header byte is written from its index as a number and its `op`. -/
theorem headerOf_ofNat_idxField {h : Byte} (op : BitVec 4) (hop : (opField h).toNat = op.toNat) :
    headerOf op (BitVec.ofNat 4 (idxField h).toNat) = h := by
  rw [BitVec.ofNat_toNat, BitVec.setWidth_eq, ← BitVec.eq_of_toNat_eq hop, headerOf_fields]

/-- `GET` of any index has the one form of word, the unknown indices too (30 R62, R73). -/
theorem encode_getCommand (idx : Nat) : encode (getCommand idx) = encodeGet idx := by
  rcases lt_or_ge idx 12 with known | unknown
  · interval_cases idx <;> rfl
  · rw [getCommand_unknown idx unknown]
    rfl

/-- `SET` of any index has the one form of word, the unknown indices too (30 R62, R73). -/
theorem encode_setCommand (idx : Nat) (v : Value) : encode (setCommand idx v) = encodeSet idx v := by
  rcases lt_or_ge idx 12 with known | unknown
  · interval_cases idx <;> rfl
  · rw [setCommand_unknown idx v unknown]
    rfl

/-- Every command has one length (30 R76). -/
theorem encode_length (i : Instr) : (encode i).length = i.itemCount := by
  cases i <;> rfl

/-! ### What the decoder answers -/

/-- An instruction that a word of its own spells: neither the row `(reserved)` nor one of the three `REPORT` rows, and
its index, if it is an unknown one, in the four bits of the word. -/
structure HasOwnWord (i : Instr) : Prop where
  wf : i.wf = true
  encodable : i.encodable = true
  spells : i.isReserved = false
  own : i.spelled = i

theorem getCommand_hasOwnWord {idx : Nat} (h : idx < 16) : HasOwnWord (getCommand idx) := by
  interval_cases idx <;> exact ⟨rfl, rfl, rfl, rfl⟩

theorem setCommand_hasOwnWord {idx : Nat} (h : idx < 16) (v : Value) : HasOwnWord (setCommand idx v) := by
  interval_cases idx <;> exact ⟨rfl, rfl, rfl, rfl⟩

theorem decodeQuant_hasOwnWord (w : BitVec 10) : HasOwnWord (decodeQuant w) := by
  unfold decodeQuant
  split <;> exact ⟨rfl, rfl, rfl, rfl⟩

theorem decodeRemap_hasOwnWord (w : BitVec 9) : HasOwnWord (decodeRemap w) := by
  unfold decodeRemap
  split <;> exact ⟨rfl, rfl, rfl, rfl⟩

theorem decodeSer_hasOwnWord (w : BitVec 33) : HasOwnWord (decodeSer w) := by
  unfold decodeSer
  split <;> exact ⟨rfl, rfl, rfl, rfl⟩

/-- The items spell the instruction: they are what the encoder writes, but for an ignored index field (30 R75). -/
structure Spells (taken : List PortItem) (i : Instr) : Prop where
  instr : HasOwnWord i
  length : taken.length = i.itemCount
  items : taken = encode i ∨ ∃ h tail, taken = .byte h :: tail ∧
    encode i = .byte (headerOf (opField h) 0) :: tail ∧ 2 ≤ (opField h).toNat

/-- The items the encoder writes spell the instruction. -/
theorem spells_of_encode {i : Instr} {taken : List PortItem} (own : HasOwnWord i) (e : encode i = taken) :
    Spells taken i :=
  ⟨own, e ▸ encode_length i, .inl e.symm⟩

/-- So do they with another index in the header of a command that ignores it. -/
theorem spells_of_ignored_idx {i : Instr} {h : Byte} {tail : List PortItem} (own : HasOwnWord i) (op : BitVec 4)
    (hop : (opField h).toNat = op.toNat) (ignores : 2 ≤ op.toNat) (e : encode i = .byte (headerOf op 0) :: tail) :
    Spells (.byte h :: tail) i := by
  obtain rfl : opField h = op := BitVec.eq_of_toNat_eq hop
  refine ⟨own, ?_, .inr ⟨h, tail, rfl, e, ignores⟩⟩
  rw [← encode_length i, e]
  rfl

theorem decodeSet_ok {idx : Nat} {items rest : List PortItem} {i : Instr} (h : decodeSet idx items = .ok (i, rest)) :
    ∃ v, items = .value v :: rest ∧ i = setCommand idx v := by
  unfold decodeSet at h
  split at h <;> cases h
  exact ⟨_, rfl, rfl⟩

theorem decodeLoad_ok {items rest : List PortItem} {i : Instr} (h : decodeLoad items = .ok (i, rest)) :
    ∃ p b, items = .byte p :: .byte b :: rest ∧ i = .load p b := by
  unfold decodeLoad at h
  split at h <;> cases h
  exact ⟨_, _, rfl, rfl⟩

/-- A header and the operands after it spell the command the decoder answers, `op` by `op` (30 R62). -/
theorem decodeCommand_spells {header : Byte} {items rest : List PortItem} {i : Instr}
    (h : decodeCommand header items = .ok (i, rest)) :
    ∃ operands, items = operands ++ rest ∧ Spells (.byte header :: operands) i := by
  unfold decodeCommand at h
  have hidx : (idxField header).toNat < 16 := (idxField header).isLt
  split at h
  case h_1 hop =>
    cases h
    refine ⟨[], rfl, spells_of_encode (getCommand_hasOwnWord hidx) ?_⟩
    rw [encode_getCommand, encodeGet, headerOf_ofNat_idxField 0 hop]
  case h_2 hop =>
    obtain ⟨v, rfl, rfl⟩ := decodeSet_ok h
    refine ⟨[.value v], rfl, spells_of_encode (setCommand_hasOwnWord hidx v) ?_⟩
    rw [encode_setCommand, encodeSet, headerOf_ofNat_idxField 1 hop]
  case h_3 hop =>
    cases h
    exact ⟨[], rfl, spells_of_ignored_idx ⟨rfl, rfl, rfl, rfl⟩ 2 hop (by decide) rfl⟩
  case h_4 hop =>
    cases h
    exact ⟨[], rfl, spells_of_ignored_idx ⟨rfl, rfl, rfl, rfl⟩ 3 hop (by decide) rfl⟩
  case h_5 hop =>
    cases h
    exact ⟨[], rfl, spells_of_ignored_idx ⟨rfl, rfl, rfl, rfl⟩ 4 hop (by decide) rfl⟩
  case h_6 hop =>
    obtain ⟨p, b, rfl, rfl⟩ := decodeLoad_ok h
    exact ⟨[.byte p, .byte b], rfl, spells_of_ignored_idx ⟨rfl, rfl, rfl, rfl⟩ 5 hop (by decide) rfl⟩
  case h_7 => cases h

/-- What the decoder answers is spelled by the items it took off the front. -/
theorem decode_spells {items rest : List PortItem} {i : Instr} (h : decode items = .ok (i, rest)) :
    ∃ taken, items = taken ++ rest ∧ Spells taken i := by
  cases items with
  | nil => cases h
  | cons item later =>
    cases item with
    | byte header =>
      obtain ⟨operands, rfl, spelled⟩ := decodeCommand_spells h
      exact ⟨.byte header :: operands, rfl, spelled⟩
    | value v => cases h
    | hatencPort dir =>
      cases h
      exact ⟨[_], rfl, spells_of_encode ⟨rfl, rfl, rfl, rfl⟩ (encode_decodeHatenc dir)⟩
    | quantPort w =>
      cases h
      exact ⟨[_], rfl, spells_of_encode (decodeQuant_hasOwnWord w) (encode_decodeQuant w)⟩
    | remapPort w =>
      cases h
      exact ⟨[_], rfl, spells_of_encode (decodeRemap_hasOwnWord w) (encode_decodeRemap w)⟩
    | serPort w =>
      cases h
      exact ⟨[_], rfl, spells_of_encode (decodeSer_hasOwnWord w) (encode_decodeSer w)⟩

/-- Settles O33, by cases on the port and on the header's `op`. -/
theorem decodedInstructionsAreWellFormed : Obligations.DecodedInstructionsAreWellFormed := by
  intro items rest i h
  obtain ⟨taken, hitems, ⟨⟨wf, encodable, spells, own⟩, length, form⟩⟩ := decode_spells h
  exact ⟨wf, encodable, spells, own, taken, hitems, length, form⟩

/-! ### Reserved headers (30 R74) -/

/-- `op` is the header's upper half. -/
theorem opField_toNat (h : Byte) : (opField h).toNat = h.toNat / 16 := by
  simp only [opField, BitVec.extractLsb'_toNat, Nat.shiftRight_eq_div_pow]
  omega

theorem decodeCommand_reserved {h : Byte} (reserved : 0x60 ≤ h.toNat) (rest : List PortItem) :
    decodeCommand h rest = .error (.reservedHeader h) := by
  have hop : 6 ≤ (opField h).toNat := by
    rw [opField_toNat]
    omega
  unfold decodeCommand
  split
  case h_7 => rfl
  all_goals omega

/-- Where the items spell no instruction, the step is what the machine does without one. -/
theorem step_of_decode_error {s : State} {e : DecodeError} (h : decode s.input = .error e) :
    step s = s.noInstruction e := by
  rw [step, State.fetch, h]

/-- Settles O34: a header from `0x60` up has `op` 6 or above, for which the decoder has no command. -/
theorem reservedHeadersAreInvalid : Obligations.ReservedHeadersAreInvalid := by
  refine ⟨rfl, fun h rest s reserved => ?_⟩
  have hdecode : decode (.byte h :: rest) = .error (.reservedHeader h) := decodeCommand_reserved reserved rest
  refine ⟨hdecode, rfl, fun presented => ?_⟩
  exact step_of_decode_error (presented ▸ hdecode)

/-! ### The ignored index field (30 R75) and sample words -/

/-- Settles O35: the decoder looks at `op` alone where it is 2 to 5. -/
theorem ignoredIndexFieldIsIgnored : Obligations.IgnoredIndexFieldIsIgnored := by
  refine ⟨fun idx p b rest => ?_, rfl, rfl, rfl, fun p b => rfl⟩
  simp [decodeCommand, decodeLoad]

/-- Settles O36: each word is evaluated. -/
theorem decodeOfSampleWords : Obligations.DecodeOfSampleWords :=
  ⟨rfl, rfl, rfl, rfl, rfl, rfl, rfl, rfl, rfl, rfl⟩

/-! ### The strap codes (30 R66) -/

/-- `REPORT` without a serializer responds once, with the error length, after the hat recomputation (60 R201, R205). -/
theorem exec_report_ryojouhen {s : State} (model : s.model = .ryojouhen) :
    exec .report s = .next s.updateHat.raiseUnsupportedVariant := by
  rw [exec_of_spelled_report rfl, respondByModel_ryojouhen model]

/-- Settles O37: code 3 names `Ryojouhen` as code 2 does, whose `REPORT` responds the error length. -/
theorem strapCodesNameTheModels : Obligations.StrapCodesNameTheModels :=
  ⟨rfl, rfl, rfl, rfl, Config.errIoError, _, _, exec_report_ryojouhen rfl, rfl, errIoError_neg⟩

end Sys2Proof.Proofs
end

section
/-! PROOFS. The `SET` operand conversions by their thresholds, and which class of binding stores which (30 R71). -/

namespace Sys2Proof.Proofs

open Sys2Proof.Machine Sys2Proof.Laws

/-! ### Where the rounded product is positive -/

/-- Above one half `round` answers at least 1 (00 R12). -/
theorem roundRat_pos_of_half_lt (ties : RoundTies) {q : Rat} (h : 1 / 2 < q) : 0 < roundRat ties q := by
  have hfloor : 0 ≤ q.floor := Rat.le_floor_iff.mpr (by push_cast; linarith)
  rcases hfloor.eq_or_lt with hzero | hpos
  · have hfrac : 1 / 2 < q - q.floor := by simpa [← hzero] using h
    rw [roundRat_of_half_lt_frac ties hfrac]
    omega
  · rcases roundRat_floor_or_succ ties q with e | e <;> omega

/-- Below one half `round` answers at most 0 (00 R12). -/
theorem roundRat_nonpos_of_lt_half (ties : RoundTies) {q : Rat} (h : q < 1 / 2) : roundRat ties q ≤ 0 := by
  have hfloor : q.floor < 0 + 1 := Rat.floor_lt_iff.mpr (by push_cast; linarith)
  rcases (Int.lt_add_one_iff.mp hfloor).eq_or_lt with hzero | hneg
  · have hfrac : q - q.floor < 1 / 2 := by simpa [hzero] using h
    rw [roundRat_of_frac_lt_half ties hfrac, hzero]
  · rcases roundRat_floor_or_succ ties q with e | e <;> omega

/-- `ROUND_TIES = HALF_AWAY` takes one half itself to 1. -/
theorem roundRat_halfAway_pos_iff {q : Rat} : 0 < roundRat .halfAway q ↔ 1 / 2 ≤ q := by
  rcases lt_trichotomy q (1 / 2) with hlt | rfl | hgt
  · exact iff_of_false (roundRat_nonpos_of_lt_half .halfAway hlt).not_gt hlt.not_ge
  · decide +kernel
  · exact iff_of_true (roundRat_pos_of_half_lt .halfAway hgt) hgt.le

/-- `ROUND_TIES = HALF_EVEN` takes one half itself to 0. -/
theorem roundRat_halfEven_pos_iff {q : Rat} : 0 < roundRat .halfEven q ↔ 1 / 2 < q := by
  rcases lt_trichotomy q (1 / 2) with hlt | rfl | hgt
  · exact iff_of_false (roundRat_nonpos_of_lt_half .halfEven hlt).not_gt hlt.not_gt
  · decide +kernel
  · exact iff_of_true (roundRat_pos_of_half_lt .halfEven hgt) hgt

/-! ### The conversions -/

theorem clampInt_eq_max_min {n lo hi : Int} (hle : lo ≤ hi) : clampInt n lo hi = max lo (min hi n) := by
  unfold clampInt
  split
  · omega
  · split <;> omega

/-- The raw byte as the two bounds and the rounded product (30 R71). -/
theorem toRaw_toNat_eq_max_min (ties : RoundTies) (v : Value) :
    ((toRaw ties v).toNat : Int) = max 0 (min 255 (roundRat ties (v * 255))) :=
  (toRaw_toNat ties v).trans (clampInt_eq_max_min (by decide))

/-- A flag is set where the rounded product is positive: the clamp neither makes nor removes a zero there. -/
theorem toFlag_iff_roundRat_pos (ties : RoundTies) (v : Value) :
    toFlag ties v = true ↔ 0 < roundRat ties (v * 255) := by
  have hraw := toRaw_toNat_eq_max_min ties v
  rw [toFlag_iff, ne_eq, ← BitVec.toNat_inj, BitVec.ofNat_eq_ofNat, BitVec.toNat_ofNat, Nat.zero_mod]
  omega

theorem toFlag_halfAway_iff (v : Value) : toFlag .halfAway v = true ↔ 1 / 510 ≤ v := by
  rw [toFlag_iff_roundRat_pos, roundRat_halfAway_pos_iff]
  constructor <;> intro h <;> linarith

theorem toFlag_halfEven_iff (v : Value) : toFlag .halfEven v = true ↔ 1 / 510 < v := by
  rw [toFlag_iff_roundRat_pos, roundRat_halfEven_pos_iff]
  constructor <;> intro h <;> linarith

/-- Above `1/510` the flag does not depend on `ROUND_TIES`. -/
theorem toFlag_of_lt (ties : RoundTies) {v : Value} (h : 1 / 510 < v) : toFlag ties v = true := by
  cases ties with
  | halfAway => exact (toFlag_halfAway_iff v).mpr h.le
  | halfEven => exact (toFlag_halfEven_iff v).mpr h

/-! ### Which `SET` stores which conversion -/

/-- A button `SET` stores `ToBit` of its operand in its own button. -/
theorem exec_setButton_readButton (button : Button) (v : Value) (s : State) :
    ∃ t, exec (setButton button v) s = .next t ∧ t.readButton button = toBit v :=
  ⟨_, exec_setButton button v s, (readButton_writeButton s button button _).trans (if_pos rfl)⟩

/-- Settles O9: the thresholds of the conversions, then the stored conversion of each of the twelve bindings. -/
theorem setOperandConversions : Obligations.SetOperandConversions := by
  refine ⟨fun ties v => ⟨toRaw_toNat_eq_max_min ties v, toFlag_iff ties v, toBit_iff v, toFlag_halfAway_iff v,
    toFlag_halfEven_iff v, toFlag_of_lt ties (by norm_num), by decide +kernel⟩, fun v s => ?_⟩
  exact ⟨⟨_, rfl, rfl⟩, ⟨_, rfl, rfl⟩,
    ⟨_, rfl, rfl⟩, ⟨_, rfl, rfl⟩, ⟨_, rfl, rfl⟩, ⟨_, rfl, rfl⟩,
    exec_setButton_readButton .b v s, exec_setButton_readButton .a v s, exec_setButton_readButton .c v s,
    exec_setButton_readButton .d v s, exec_setButton_readButton .select v s, exec_setButton_readButton .start v s⟩

end Sys2Proof.Proofs
end

section
/-! PROOFS. The hat switch encoder and its port: the nine tests, the truth table and the range (40 R91 to R93). -/

namespace Sys2Proof.Proofs

open Sys2Proof.Machine Sys2Proof.Laws

/-- An evaluation at `HATENC`'s port answers the encoder's output and does nothing else (log 6). -/
theorem exec_hatenc (up down left right : Bool) (s : State) :
    exec (.hatenc up down left right) s = .next (s.respond (.hatCode (hatenc up down left right))) := rfl

/-- The nine tests in the order of 40 R91: the diagonals before the single directions. -/
theorem hatenc_eq_first_test (up down left right : Bool) :
    hatenc up down left right =
      if up = true ∧ right = true then 1 else if right = true ∧ down = true then 3
      else if down = true ∧ left = true then 5 else if left = true ∧ up = true then 7
      else if up = true then 0 else if right = true then 2 else if down = true then 4
      else if left = true then 6 else 8 := by
  simp only [hatenc, Bool.and_eq_true]

/-- The truth table in `dir` order (40 R92), one entry for each of the 16 port words. -/
theorem hatenc_eq_truth_table (dir : BitVec 4) :
    hatenc (dir.getLsbD 3) (dir.getLsbD 2) (dir.getLsbD 1) (dir.getLsbD 0) =
      ([8, 2, 6, 2, 4, 3, 5, 3, 0, 1, 7, 1, 0, 1, 5, 1] : List (BitVec 4)).getD dir.toNat 0 := by
  revert dir
  decide

/-- Each single direction has a test of its own, which answers below 8 when no diagonal did: only the neutral case is
left for 8 (40 R93). -/
theorem flags_clear_of_hatenc_eq_eight {up down left right : Bool} (h : hatenc up down left right = 8) :
    up = false ∧ down = false ∧ left = false ∧ right = false := by
  rw [hatenc_eq_first_test] at h
  split_ifs at h with upRight rightDown downLeft leftUp hup hright hdown hleft
  iterate 8 exact absurd h (by decide)
  exact ⟨Bool.eq_false_of_not_eq_true hup, Bool.eq_false_of_not_eq_true hdown, Bool.eq_false_of_not_eq_true hleft,
    Bool.eq_false_of_not_eq_true hright⟩

/-- Settles O24: the port answers the encoder's output, which is the first test that holds and the table's entry. -/
theorem hatencPortAnswersThePrecedence : Obligations.HatencPortAnswersThePrecedence := by
  refine ⟨fun up down left right s => ?precedence, fun dir s rest => ⟨_, decode_hatencPort dir rest, ?table⟩,
    fun up down left right => ⟨hatenc_toNat_le up down left right, flags_clear_of_hatenc_eq_eight⟩⟩
  case precedence =>
    rw [exec_hatenc, hatenc_eq_first_test, State.respond]
  case table =>
    rw [decodeHatenc, exec_hatenc, hatenc_eq_truth_table, State.respond]

end Sys2Proof.Proofs
end

section
/-! PROOFS. The notch quantizer: what a scan answers by the order of its pairs, the four tables' order, and from the
two the laws of `QUANT` (41 R101 to R110). -/

namespace Sys2Proof.Proofs

open Sys2Proof.Machine Sys2Proof.Laws

/-! ### The scan -/

/-- 41 R101: each threshold is below every threshold before it. -/
abbrev ThresholdsDescend (pairs : List (Byte × Byte)) : Prop := pairs.Pairwise fun p q => q.1 < p.1

theorem scanPairs_cons_of_le {threshold x : Byte} (output : Byte) (rest : List (Byte × Byte)) (h : threshold ≤ x) :
    scanPairs ((threshold, output) :: rest) x = some output := if_pos h

theorem scanPairs_cons_of_not_le {threshold x : Byte} (output : Byte) (rest : List (Byte × Byte))
    (h : ¬threshold ≤ x) : scanPairs ((threshold, output) :: rest) x = scanPairs rest x := if_neg h

theorem scanPairs_zero_threshold (output x : Byte) (rest : List (Byte × Byte)) :
    scanPairs ((0x00, output) :: rest) x = some output :=
  scanPairs_cons_of_le output rest (BitVec.le_def.mpr (Nat.zero_le _))

/-- The output of the interval an input lies in, where `last` answers below every threshold (41 R103 to R106). -/
def intervalOutput (pairs : List (Byte × Byte)) (last x : Byte) : Byte :=
  pairs.foldr (fun p below => if p.1.toNat ≤ x.toNat then p.2 else below) last

/-- The scan of a table answers by its intervals. -/
theorem scanPairs_eq_intervalOutput (pairs : List (Byte × Byte)) (last x : Byte) :
    scanPairs (pairs ++ [(0, last)]) x = some (intervalOutput pairs last x) := by
  induction pairs with
  | nil => exact scanPairs_zero_threshold last x []
  | cons p rest ih =>
    by_cases h : p.1 ≤ x
    · exact (scanPairs_cons_of_le p.2 _ h).trans (congrArg some (if_pos (BitVec.le_def.mp h)).symm)
    · calc scanPairs (p :: rest ++ [(0, last)]) x
        _ = scanPairs (rest ++ [(0, last)]) x := scanPairs_cons_of_not_le p.2 _ h
        _ = some (intervalOutput rest last x) := ih
        _ = some (intervalOutput (p :: rest) last x) := congrArg some (if_neg (mt BitVec.le_def.mpr h)).symm

/-- Where thresholds descend, the first match is the greatest match (41 R110 (e)). -/
theorem scanPairs_greatest {pairs : List (Byte × Byte)} {x o : Byte} (descend : ThresholdsDescend pairs)
    (h : scanPairs pairs x = some o) :
    ∃ p ∈ pairs, p.1 ≤ x ∧ p.2 = o ∧ ∀ q ∈ pairs, q.1 ≤ x → q.1 ≤ p.1 := by
  induction pairs with
  | nil => cases h
  | cons head rest ih =>
    obtain ⟨threshold, output⟩ := head
    obtain ⟨below, descendRest⟩ := List.pairwise_cons.mp descend
    by_cases hle : threshold ≤ x
    · rw [scanPairs_cons_of_le output rest hle] at h
      cases h
      refine ⟨(threshold, o), List.mem_cons_self, hle, rfl, fun q hq _ => ?_⟩
      obtain rfl | hq := List.mem_cons.mp hq
      · exact BitVec.le_refl _
      · exact BitVec.le_of_lt (below q hq)
    · rw [scanPairs_cons_of_not_le output rest hle] at h
      obtain ⟨p, hp, hpx, hpo, greatest⟩ := ih descendRest h
      refine ⟨p, List.mem_cons_of_mem _ hp, hpx, hpo, fun q hq hqx => ?_⟩
      obtain rfl | hq := List.mem_cons.mp hq
      · exact absurd hqx hle
      · exact greatest q hq hqx

/-- The scan keeps the order of the outputs: a smaller input stops no earlier in the list. One statement for both
directions of 41 R108. -/
theorem scanPairs_monotone {r : Byte → Byte → Prop} (refl : ∀ b, r b b) {pairs : List (Byte × Byte)}
    (outputs : pairs.Pairwise fun p q => r q.2 p.2) {x y a b : Byte} (hxy : x ≤ y)
    (ha : scanPairs pairs x = some a) (hb : scanPairs pairs y = some b) : r a b := by
  induction pairs with
  | nil => cases ha
  | cons head rest ih =>
    obtain ⟨threshold, output⟩ := head
    obtain ⟨related, outputsRest⟩ := List.pairwise_cons.mp outputs
    by_cases hx : threshold ≤ x
    · rw [scanPairs_cons_of_le output rest hx] at ha
      rw [scanPairs_cons_of_le output rest (BitVec.le_trans hx hxy)] at hb
      cases ha
      cases hb
      exact refl a
    · rw [scanPairs_cons_of_not_le output rest hx] at ha
      by_cases hy : threshold ≤ y
      · rw [scanPairs_cons_of_le output rest hy] at hb
        cases hb
        obtain ⟨_, hmem, _⟩ := scanPairs_mem ha
        exact related _ hmem
      · rw [scanPairs_cons_of_not_le output rest hy] at hb
        exact ih outputsRest ha hb

/-- At `0xFF` the first pair answers. -/
theorem scanPairs_max (pairs : List (Byte × Byte)) : scanPairs pairs 0xFF = pairs.head?.map Prod.snd := by
  cases pairs with
  | nil => rfl
  | cons p rest => exact scanPairs_cons_of_le p.2 rest (BitVec.le_def.mpr (Nat.le_of_lt_succ p.1.isLt))

/-- At `0x00` only the pair of threshold 0 answers, because the thresholds before it are above 0. -/
theorem scanPairs_zero_input {pairs : List (Byte × Byte)} {out : Byte}
    (descend : ThresholdsDescend (pairs ++ [(0, out)])) : scanPairs (pairs ++ [(0, out)]) 0x00 = some out := by
  induction pairs with
  | nil => exact scanPairs_zero_threshold out 0x00 []
  | cons p rest ih =>
    obtain ⟨below, descendRest⟩ := List.pairwise_cons.mp descend
    have above : 0 < p.1 := below (0, out) (by simp)
    exact (scanPairs_cons_of_not_le p.2 _ (BitVec.not_le.mpr above)).trans (ih descendRest)

/-! ### The order of the four tables (41 R103 to R106) -/

theorem romPairs_thresholds_descend (t : NotchTable) : ThresholdsDescend (romPairs t) := by
  cases t <;> decide

theorem romPairs_t2p_outputs_ascend : (romPairs .t2p).Pairwise fun p q => q.2 ≥ p.2 := by decide

theorem romPairs_outputs_descend {t : NotchTable} (h : t ≠ .t2p) : (romPairs t).Pairwise fun p q => q.2 ≤ p.2 := by
  cases t with
  | t2p => exact absurd rfl h
  | t2b | skp | skb => decide

/-! ### The lookup -/

theorem romRead_eq_some_iff {t : NotchTable} {p : Byte × Byte} : (∃ k, romRead t k = some p) ↔ p ∈ romPairs t :=
  List.mem_iff_getElem?.symm

theorem romRead_threshold_lt {t : NotchTable} {j k : Nat} {p q : Byte × Byte} (hjk : j < k)
    (hp : romRead t j = some p) (hq : romRead t k = some q) : q.1 < p.1 := by
  obtain ⟨hj, rfl⟩ := List.getElem?_eq_some_iff.mp hp
  obtain ⟨hk, rfl⟩ := List.getElem?_eq_some_iff.mp hq
  exact List.pairwise_iff_getElem.mp (romPairs_thresholds_descend t) j k hj hk hjk

theorem quant_eq_intervalOutput {t : NotchTable} {last : Byte} (h : (0, last) ∈ (romPairs t).getLast?) (x : Byte) :
    quant t x = intervalOutput (romPairs t).dropLast last x := by
  have scan := scanPairs_eq_intervalOutput (romPairs t).dropLast last x
  rw [List.dropLast_append_getLast? _ h, scanPairs_eq_quant] at scan
  exact Option.some.inj scan

theorem quant_monotone {t : NotchTable} (h : t ≠ .t2p) {x y : Byte} (hxy : x ≤ y) : quant t x ≤ quant t y :=
  scanPairs_monotone (r := (· ≤ ·)) BitVec.le_refl (romPairs_outputs_descend h) hxy (scanPairs_eq_quant t x)
    (scanPairs_eq_quant t y)

theorem quant_t2p_antitone {x y : Byte} (hxy : x ≤ y) : quant .t2p y ≤ quant .t2p x :=
  scanPairs_monotone (r := (· ≥ ·)) BitVec.le_refl romPairs_t2p_outputs_ascend hxy (scanPairs_eq_quant .t2p x)
    (scanPairs_eq_quant .t2p y)

theorem quant_max (t : NotchTable) : (romPairs t).head?.map Prod.snd = some (quant t 0xFF) :=
  (scanPairs_max (romPairs t)).symm.trans (scanPairs_eq_quant t 0xFF)

theorem quant_zero (t : NotchTable) : (romPairs t).getLast?.map Prod.snd = some (quant t 0x00) := by
  obtain ⟨pairs, out, ends⟩ := romPairs_ends_in_zero t
  have descend := romPairs_thresholds_descend t
  rw [ends] at descend
  calc (romPairs t).getLast?.map Prod.snd
    _ = some out := by rw [ends, List.getLast?_concat, Option.map_some]
    _ = scanPairs (romPairs t) 0x00 := by rw [ends, scanPairs_zero_input descend]
    _ = some (quant t 0x00) := scanPairs_eq_quant t 0x00

/-! ### The ports (log 6) -/

theorem exec_quantT2P (x : Byte) (s : State) : exec (.quantT2P x) s = .next (s.respond (.notch (quant .t2p x))) := rfl
theorem exec_quantT2B (x : Byte) (s : State) : exec (.quantT2B x) s = .next (s.respond (.notch (quant .t2b x))) := rfl
theorem exec_quantSKP (x : Byte) (s : State) : exec (.quantSKP x) s = .next (s.respond (.notch (quant .skp x))) := rfl
theorem exec_quantSKB (x : Byte) (s : State) : exec (.quantSKB x) s = .next (s.respond (.notch (quant .skb x))) := rfl

/-! ### The obligations -/

/-- Settles O25: each port answers the lookup, which answers by the intervals of its table. -/
theorem quantPortsAnswerTheIntervals : Obligations.QuantPortsAnswerTheIntervals := by
  refine ⟨rfl, rfl, rfl, rfl, fun x s => ⟨?t2p, ?t2b, ?skp, ?skb⟩⟩
  case t2p => rw [exec_quantT2P, quant_eq_intervalOutput rfl]; rfl
  case t2b => rw [exec_quantT2B, quant_eq_intervalOutput rfl]; rfl
  case skp => rw [exec_quantSKP, quant_eq_intervalOutput rfl]; rfl
  case skb => rw [exec_quantSKB, quant_eq_intervalOutput rfl]; rfl

/-- Settles O26: the tables' thresholds descend to 0, so the first match is the greatest. -/
theorem quantAnswersTheGreatestThreshold : Obligations.QuantAnswersTheGreatestThreshold := by
  intro t
  refine ⟨fun j k p q => romRead_threshold_lt, ?endsInZero, fun x => ?greatest⟩
  case endsInZero =>
    obtain ⟨pairs, out, ends⟩ := romPairs_ends_in_zero t
    exact ⟨(0, out), by rw [ends, List.getLast?_concat], rfl⟩
  case greatest =>
    obtain ⟨p, hp, hpx, hout, greatest⟩ := scanPairs_greatest (romPairs_thresholds_descend t) (scanPairs_eq_quant t x)
    obtain ⟨k, hk⟩ := romRead_eq_some_iff.mpr hp
    exact ⟨k, p, hk, hpx, hout, fun k' q hq => greatest q (romRead_eq_some_iff.mp ⟨k', hq⟩)⟩

/-- Settles O27: the outputs in stored order descend in three tables and ascend in `T2P`. -/
theorem quantIsMonotone : Obligations.QuantIsMonotone := fun _ _ hxy =>
  ⟨quant_monotone (by decide) hxy, quant_monotone (by decide) hxy, quant_monotone (by decide) hxy,
    quant_t2p_antitone hxy⟩

/-- Settles O28: the last pair answers at `0x00` and the first at `0xFF`; the eight values are those of the tables. -/
theorem quantAtTheEndPoints : Obligations.QuantAtTheEndPoints :=
  ⟨by decide, by decide, by decide, by decide, by decide, by decide, by decide, by decide,
    fun t => ⟨quant_zero t, quant_max t⟩⟩

end Sys2Proof.Proofs
end

section
/-! PROOFS. The button remapper: `REMAP_SK` permutes the six logical bits with order four, from which both forms are
bijections on six-bit values, and the two ports (42 R121 to R125). -/

namespace Sys2Proof.Proofs

open Sys2Proof.Machine Sys2Proof.Laws

/-! ### Six-bit values -/

/-- A byte is a six-bit value when its two unused bits are clear. -/
theorem toNat_le_sixBits_iff (b : Byte) : b.toNat ≤ 0x3F ↔ b.getLsbD 6 = false ∧ b.getLsbD 7 = false := by
  constructor
  · intro h
    have small : b.toNat < 2 ^ 6 := Nat.lt_succ_of_le h
    exact ⟨Nat.testBit_lt_two_pow small, Nat.testBit_lt_two_pow (small.trans (by decide))⟩
  · rintro ⟨h6, h7⟩
    refine Nat.le_of_lt_succ (Nat.lt_pow_two_of_testBit (n := 6) _ fun i hi => ?_)
    obtain rfl | rfl | above : i = 6 ∨ i = 7 ∨ 8 ≤ i := by omega
    · exact h6
    · exact h7
    · exact BitVec.getLsbD_of_ge b i above

/-- Six-bit values are equal when their six bits are. -/
theorem eq_of_sixBits {x y : Byte} (hx : x.toNat ≤ 0x3F) (hy : y.toNat ≤ 0x3F)
    (bits : ∀ i < 6, x.getLsbD i = y.getLsbD i) : x = y := by
  obtain ⟨hx6, hx7⟩ := (toNat_le_sixBits_iff x).mp hx
  obtain ⟨hy6, hy7⟩ := (toNat_le_sixBits_iff y).mp hy
  refine BitVec.eq_of_getLsbD_eq fun i hi => ?_
  obtain low | rfl | rfl : i < 6 ∨ i = 6 ∨ i = 7 := by omega
  · exact bits i low
  · exact hx6.trans hy6.symm
  · exact hx7.trans hy7.symm

/-! ### The permutation -/

theorem remapSK_toNat_le (b : Byte) : (remapSK b).toNat ≤ 0x3F := by
  rw [toNat_le_sixBits_iff]
  simp only [remapSK_bits, and_self]

/-- The permutation of bits is the cycle 0 to 2 to 1 to 3 to 0, with bits 4 and 5 in place (42 R123). -/
theorem remapSK_four_times {b : Byte} (h : b.toNat ≤ 0x3F) : remapSK (remapSK (remapSK (remapSK b))) = b := by
  refine eq_of_sixBits (remapSK_toNat_le _) h fun i hi => ?_
  interval_cases i <;> simp only [remapSK_bits]

/-- Three more applications undo one. -/
theorem remapSK_existsUnique_preimage {y : Byte} (h : y.toNat ≤ 0x3F) :
    ∃! x : Byte, x.toNat ≤ 0x3F ∧ remapSK x = y := by
  refine ⟨remapSK (remapSK (remapSK y)), ⟨remapSK_toNat_le _, remapSK_four_times h⟩, ?unique⟩
  rintro x ⟨hx, rfl⟩
  exact (remapSK_four_times hx).symm

theorem remapT2_existsUnique_preimage {y : Byte} (h : y.toNat ≤ 0x3F) :
    ∃! x : Byte, x.toNat ≤ 0x3F ∧ remapT2 x = y :=
  ⟨y, ⟨h, rfl⟩, fun _ hx => hx.2⟩

/-! ### The ports (log 6) -/

theorem exec_remapT2 (b : Byte) (s : State) : exec (.remapT2 b) s = .next (s.respond (.wire (remapT2 b))) := rfl
theorem exec_remapSK (b : Byte) (s : State) : exec (.remapSK b) s = .next (s.respond (.wire (remapSK b))) := rfl

/-! ### The obligations -/

/-- Settles O30: `REMAP_SK` has order four on six-bit values, so its third iterate is its inverse there. -/
theorem remapIsABijectionOnSixBits : Obligations.RemapIsABijectionOnSixBits :=
  ⟨fun _ hy => ⟨remapSK_existsUnique_preimage hy, remapT2_existsUnique_preimage hy⟩,
    fun b hb => ⟨remapSK_toNat_le b, remapSK_four_times hb⟩⟩

/-- Settles O29: each port answers its form, and `REMAP_SK`'s formula is its permutation bit by bit. -/
theorem remapPortsPermuteTheButtons : Obligations.RemapPortsPermuteTheButtons := by
  intro b s
  obtain ⟨bit0, bit1, bit2, bit3, bit4, bit5, bit6, bit7⟩ := remapSK_bits b
  exact ⟨exec_remapT2 b s, remapSK b, exec_remapSK b s, rfl, bit2, bit3, bit1, bit0, bit4, bit5, bit6, bit7⟩

end Sys2Proof.Proofs
end

section
/-! PROOFS. `REPORT` by model, the bytes a report can carry, and the serializer's ports (43 R131 to R143). -/

namespace Sys2Proof.Proofs

open Sys2Proof.Machine Sys2Proof.Laws

/-! ### `REPORT` on each model -/

section
variable {i : Instr} {s : State}

theorem exec_report_of_type2 (spelled : i.spelled = .report) (model : s.model = .type2) :
    exec i s = .next (s.updateHat.respond (.report 6 (serT2 s.brake s.power s.hatCode s.buttons))) := by
  rw [exec_of_spelled_report spelled, respondByModel_type2 model]
  rfl

theorem exec_report_of_shinkansen (spelled : i.spelled = .report) (model : s.model = .shinkansen) :
    exec i s = .next (s.updateHat.respond (.report 6 (serSK s.brake s.power s.hatCode s.buttons))) := by
  rw [exec_of_spelled_report spelled, respondByModel_shinkansen model]
  rfl

theorem exec_report_of_ryojouhen (spelled : i.spelled = .report) (model : s.model = .ryojouhen) :
    exec i s = .next s.updateHat.raiseUnsupportedVariant := by
  rw [exec_of_spelled_report spelled, respondByModel_ryojouhen model]

end

/-! ### The bytes of a report (43 R137) -/

/-- The lookup answers one of its table's outputs. -/
theorem quant_mem_outputs (t : NotchTable) (x : Byte) : quant t x ∈ (romPairs t).map Prod.snd := by
  obtain ⟨_, hmem, _⟩ := scanPairs_mem (scanPairs_eq_quant t x)
  exact List.mem_map_of_mem hmem

/-- The low nibble of a byte is no more than the byte. -/
theorem hatByte_toNat_le (hat : Byte) : (hatByte hat).toNat ≤ hat.toNat := by
  rw [hatByte, BitVec.toNat_and]
  exact Nat.and_le_left

theorem hatByte_hatCode_toNat_le (s : State) : (hatByte s.hatCode).toNat ≤ 8 :=
  (hatByte_toNat_le _).trans (hatCode_toNat_le s)

/-- A byte with bits 7:6 clear is a six-bit value (10 R28). -/
theorem toNat_le_sixBits_of_unused_clear {b : Byte} (unused : b &&& 0xC0 = 0) : b.toNat ≤ 0x3F := by
  have bit (k : Nat) : (b.getLsbD k && (0xC0 : Byte).getLsbD k) = false := by
    rw [← BitVec.getLsbD_and, unused]
    exact BitVec.getLsbD_zero
  exact (toNat_le_sixBits_iff b).mpr ⟨by simpa using bit 6, by simpa using bit 7⟩

/-! ### The ports (log 6) -/

theorem exec_serT2 (brake power hat buttons : Byte) (s : State) :
    exec (.serT2 brake power hat buttons) s = .next (s.respond (.serialized (serT2 brake power hat buttons) 6)) := rfl

theorem exec_serSK (brake power hat buttons : Byte) (s : State) :
    exec (.serSK brake power hat buttons) s = .next (s.respond (.serialized (serSK brake power hat buttons) 6)) := rfl

/-! ### The obligations -/

/-- Settles O31: each port answers its layout. -/
theorem serPortsAnswerSixBytes : Obligations.SerPortsAnswerSixBytes := fun brake power hat buttons s =>
  ⟨exec_serT2 brake power hat buttons s, exec_serSK brake power hat buttons s⟩

/-- Settles O16: both words of `REPORT` reach the Type2 layout of the state with the hat code recomputed. -/
theorem reportOnType2 : Obligations.ReportOnType2 := by
  rintro s model t rfl
  exact ⟨exec_report_of_type2 rfl model, exec_report_of_type2 rfl model⟩

/-- Settles O17: both words of `REPORT` reach the Shinkansen layout of the state with the hat code recomputed. -/
theorem reportOnShinkansen : Obligations.ReportOnShinkansen := by
  rintro s model t rfl
  exact ⟨exec_report_of_shinkansen rfl model, exec_report_of_shinkansen rfl model⟩

/-- Settles O18: the buffer is the next free one, whatever it holds. -/
theorem reportOnRyojouhenRaisesUnsupportedVariant : Obligations.ReportOnRyojouhenRaisesUnsupportedVariant := by
  refine ⟨rfl, fun s model => ⟨errIoError_neg, freeReportBuf s.freeDraws, ?_⟩⟩
  rintro t rfl
  exact ⟨exec_report_of_ryojouhen rfl model, exec_report_of_ryojouhen rfl model⟩

/-- Settles O23: the lever bytes are outputs of their tables and the hat byte is the recomputed code; the invariant is
needed for the Type2 buttons alone, which `REMAP_T2` passes on as they are. -/
theorem reportBytesComeFromTheNotches : Obligations.ReportBytesComeFromTheNotches := by
  rintro s ⟨unused, -, -⟩
  refine ⟨fun model => ⟨_, serT2 s.brake s.power s.hatCode s.buttons, exec_report_of_type2 rfl model, rfl, ?type2⟩,
    fun model => ⟨_, serSK s.brake s.power s.hatCode s.buttons, exec_report_of_shinkansen rfl model, rfl, ?shinkansen⟩⟩
  case type2 =>
    exact ⟨rfl, quant_mem_outputs .t2b s.brake, quant_mem_outputs .t2p s.power, rfl, hatByte_hatCode_toNat_le s,
      toNat_le_sixBits_of_unused_clear unused⟩
  case shinkansen =>
    exact ⟨quant_mem_outputs .skb s.brake, quant_mem_outputs .skp s.power, rfl, hatByte_hatCode_toNat_le s,
      remapSK_toNat_le s.buttons, rfl⟩

end Sys2Proof.Proofs
end

section
/-! PROOFS. How far `round` goes from its argument, and from that the raw byte of a normalized value: where it is the
rounded product itself, where it is an end of the range, and that it inverts `FromRaw` (00 R12, 30 R71, R72). -/

namespace Sys2Proof.Proofs

open Sys2Proof.Machine Sys2Proof.Laws

/-! ### `round` -/

/-- `round` goes at most one half away, by either tie rule (00 R12). -/
theorem abs_roundRat_sub_le (ties : RoundTies) (q : Rat) : |(roundRat ties q : Rat) - q| ≤ 1 / 2 := by
  have hle : (q.floor : Rat) ≤ q := Rat.le_floor_iff.mp le_rfl
  have hlt : q < (q.floor : Rat) + 1 := by exact_mod_cast Rat.floor_lt_iff.mp (Int.lt_succ q.floor)
  rw [abs_le]
  rcases lt_trichotomy (q - q.floor) (1 / 2) with below | tie | above
  · rw [roundRat_of_frac_lt_half ties below]
    constructor <;> linarith
  · rcases roundRat_floor_or_succ ties q with e | e <;> rw [e] <;> push_cast <;> constructor <;> linarith
  · rw [roundRat_of_half_lt_frac ties above]
    push_cast
    constructor <;> linarith

theorem roundRat_intCast (ties : RoundTies) (n : Int) : roundRat ties (n : Rat) = n := by
  have near := abs_le.mp (abs_roundRat_sub_le ties n)
  have lower : (n : Rat) - 1 < roundRat ties n := by linarith
  have upper : (roundRat ties n : Rat) < n + 1 := by linarith
  norm_cast at lower upper
  omega

/-! ### The raw byte -/

/-- In [0, 1] the clamp changes nothing: the raw byte is the rounded product. -/
theorem toRaw_toNat_of_mem (ties : RoundTies) {v : Value} (h₀ : 0 ≤ v) (h₁ : v ≤ 1) :
    ((toRaw ties v).toNat : Int) = roundRat ties (v * 255) := by
  have near := abs_le.mp (abs_roundRat_sub_le ties (v * 255))
  have lower : ((-1 : Int) : Rat) < roundRat ties (v * 255) := by push_cast; linarith
  have upper : (roundRat ties (v * 255) : Rat) < (256 : Int) := by push_cast; linarith
  rw [Int.cast_lt] at lower upper
  exact (toRaw_toNat ties v).trans (clampInt_of_mem (by omega) (by omega))

/-- The quantization error of an axis: half a step of `1/255` (44 R184). -/
theorem abs_fromRaw_toRaw_sub_le (ties : RoundTies) {v : Value} (h₀ : 0 ≤ v) (h₁ : v ≤ 1) :
    |fromRaw (toRaw ties v) - v| ≤ 1 / 510 := by
  have hraw : ((toRaw ties v).toNat : Rat) = roundRat ties (v * 255) := by
    exact_mod_cast toRaw_toNat_of_mem ties h₀ h₁
  have near := abs_le.mp (abs_roundRat_sub_le ties (v * 255))
  rw [fromRaw, hraw, abs_le]
  constructor <;> linarith

/-- The second law of 44 R184: what an axis reads converts back to its byte. -/
theorem toRaw_fromRaw (ties : RoundTies) (k : Byte) : toRaw ties (fromRaw k) = k := by
  have product : fromRaw k * 255 = ((k.toNat : Int) : Rat) := by
    rw [fromRaw, div_mul_cancel₀ _ (by norm_num), Int.cast_natCast]
  have hk := k.isLt
  apply BitVec.eq_of_toNat_eq
  have hraw := toRaw_toNat ties (fromRaw k)
  rw [product, roundRat_intCast, clampInt_of_mem (by omega) (by omega)] at hraw
  exact_mod_cast hraw

theorem toRaw_eq_ofInt_max_min (ties : RoundTies) (v : Value) :
    toRaw ties v = BitVec.ofInt 8 (max 0 (min 255 (roundRat ties (v * 255)))) := by
  rw [toRaw, clampInt_eq_max_min (by decide)]

/-- Below half a step the raw byte is 0 (44 R168). -/
theorem toRaw_of_lt_half_step (ties : RoundTies) {v : Value} (h : v < 1 / 510) : toRaw ties v = 0 := by
  have hround : roundRat ties (v * 255) ≤ 0 := roundRat_nonpos_of_lt_half ties (by linarith)
  rw [toRaw, clampInt_of_le_lo hround (by decide)]
  rfl

/-- From half a step below 1 on, that point left out, the raw byte is 255 (44 R168). -/
theorem toRaw_of_half_step_below_one_lt (ties : RoundTies) {v : Value} (h : 509 / 510 < v) : toRaw ties v = 255 := by
  have near := abs_le.mp (abs_roundRat_sub_le ties (v * 255))
  have lower : ((254 : Int) : Rat) < roundRat ties (v * 255) := by push_cast; linarith
  rw [Int.cast_lt] at lower
  rw [toRaw, clampInt_of_hi_le (by omega) (by decide)]
  rfl

/-- The tie at 127.5: its farther neighbour is also its even one (44 R168). -/
theorem toRaw_one_half (ties : RoundTies) : toRaw ties (1 / 2) = 0x80 := by
  cases ties <;> decide +kernel

/-- A flag is set above half a step, and at half a step by the tie rule alone (44 R170). -/
theorem toFlag_eq_decide (ties : RoundTies) (v : Value) :
    toFlag ties v = decide (1 / 510 < v ∨ (v = 1 / 510 ∧ ties = .halfAway)) := by
  rw [Bool.eq_iff_iff, decide_eq_true_iff]
  cases ties with
  | halfAway => rw [toFlag_halfAway_iff, le_iff_lt_or_eq, eq_comm (a := v)]; simp
  | halfEven => rw [toFlag_halfEven_iff]; simp

end Sys2Proof.Proofs
end

section
/-! PROOFS. The bindings by index: what each reads, that `GET` answers it, and which instructions leave it alone
(30 R64, 44 R185, R186). -/

namespace Sys2Proof.Proofs

open Sys2Proof.Machine Sys2Proof.Laws

/-! ### The indices of the levers, the hat flags and the buttons -/

/-- The two levers (10 R21, R22). -/
inductive Lever where
  | power
  | brake

/-- The binding index of a lever (30 R64). -/
def Lever.index : Lever → Nat
  | .power => 0
  | .brake => 1

/-- The binding index of a hat flag (30 R64). -/
def HatFlag.index : HatFlag → Nat
  | .up => 2
  | .right => 3
  | .down => 4
  | .left => 5

/-- The binding index of a button (30 R64). -/
def buttonIndex : Button → Nat
  | .b => 6
  | .a => 7
  | .c => 8
  | .d => 9
  | .select => 10
  | .start => 11

theorem Lever.index_le (lever : Lever) : lever.index ≤ 1 := by cases lever <;> decide

theorem HatFlag.index_mem (flag : HatFlag) : ¬ flag.index ≤ 1 ∧ flag.index ≤ 5 := by cases flag <;> decide

theorem buttonIndex_mem (button : Button) :
    ¬ buttonIndex button ≤ 1 ∧ ¬ buttonIndex button ≤ 5 ∧ buttonIndex button ≤ 11 := by
  cases button <;> decide

/-- An index names a lever, a hat flag, a button, or nothing (30 R64, R73). -/
theorem index_cases (idx : Nat) :
    (∃ lever : Lever, idx = lever.index) ∨ (∃ flag : HatFlag, idx = flag.index) ∨
      (∃ button, idx = buttonIndex button) ∨ 12 ≤ idx := by
  match idx with
  | 0 => exact .inl ⟨.power, rfl⟩
  | 1 => exact .inl ⟨.brake, rfl⟩
  | 2 => exact .inr (.inl ⟨.up, rfl⟩)
  | 3 => exact .inr (.inl ⟨.right, rfl⟩)
  | 4 => exact .inr (.inl ⟨.down, rfl⟩)
  | 5 => exact .inr (.inl ⟨.left, rfl⟩)
  | 6 => exact .inr (.inr (.inl ⟨.b, rfl⟩))
  | 7 => exact .inr (.inr (.inl ⟨.a, rfl⟩))
  | 8 => exact .inr (.inr (.inl ⟨.c, rfl⟩))
  | 9 => exact .inr (.inr (.inl ⟨.d, rfl⟩))
  | 10 => exact .inr (.inr (.inl ⟨.select, rfl⟩))
  | 11 => exact .inr (.inr (.inl ⟨.start, rfl⟩))
  | k + 12 => exact .inr (.inr (.inr (Nat.le_add_left 12 k)))

theorem exists_lever_of_le_one {idx : Nat} (h : idx ≤ 1) : ∃ lever : Lever, idx = lever.index := by
  obtain rfl | rfl := Nat.le_one_iff_eq_zero_or_eq_one.mp h
  · exact ⟨.power, rfl⟩
  · exact ⟨.brake, rfl⟩

/-! ### Reading and writing a lever or a hat flag by name -/

def readLever (s : State) : Lever → Byte
  | .power => s.power
  | .brake => s.brake

def writeLever (s : State) : Lever → Byte → State
  | .power => s.writePower
  | .brake => s.writeBrake

def readHat (s : State) : HatFlag → Bool
  | .up => s.hatUp
  | .right => s.hatRight
  | .down => s.hatDown
  | .left => s.hatLeft

@[simp] theorem readLever_writeLever (s : State) (lever : Lever) (b : Byte) :
    readLever (writeLever s lever b) lever = b := by
  cases lever <;> rfl

@[simp] theorem writeLever_readLever (s : State) (lever : Lever) : writeLever s lever (readLever s lever) = s := by
  cases lever <;> rfl

@[simp] theorem writeLever_responses (s : State) (lever : Lever) (b : Byte) :
    (writeLever s lever b).responses = s.responses := by
  cases lever <;> rfl

@[simp] theorem readHat_writeHat_updateHat (s : State) (flag : HatFlag) (f : Bool) :
    readHat (writeHat s flag f).updateHat flag = f := by
  cases flag <;> rfl

/-! ### `SET` by index -/

theorem exec_setCommand_lever (lever : Lever) (v : Value) (s : State) :
    exec (setCommand lever.index v) s = .next (writeLever s lever (toRaw s.roundTies v)) := by
  cases lever <;> rfl

theorem setCommand_hat (flag : HatFlag) (v : Value) : setCommand flag.index v = setHat flag v := by
  cases flag <;> rfl

theorem setCommand_button (button : Button) (v : Value) : setCommand (buttonIndex button) v = setButton button v := by
  cases button <;> rfl

theorem writesBinding_setButton (button : Button) (v : Value) :
    (setButton button v).writesBinding (buttonIndex button) = true := by
  cases button <;> rfl

/-! ### `GET` by index -/

/-- The value that a binding index reads: of a lever, a hat flag, a button, or 0 of nothing (44 R155 to R167). -/
def readBinding (s : State) (idx : Nat) : Value :=
  match idx with
  | 0 => fromRaw s.power
  | 1 => fromRaw s.brake
  | 2 => fromBool s.hatUp
  | 3 => fromBool s.hatRight
  | 4 => fromBool s.hatDown
  | 5 => fromBool s.hatLeft
  | 6 => fromBit (s.readButton .b)
  | 7 => fromBit (s.readButton .a)
  | 8 => fromBit (s.readButton .c)
  | 9 => fromBit (s.readButton .d)
  | 10 => fromBit (s.readButton .select)
  | 11 => fromBit (s.readButton .start)
  | _ => 0

theorem readBinding_lever (s : State) (lever : Lever) : readBinding s lever.index = fromRaw (readLever s lever) := by
  cases lever <;> rfl

theorem readBinding_hat (s : State) (flag : HatFlag) : readBinding s flag.index = fromBool (readHat s flag) := by
  cases flag <;> rfl

theorem readBinding_button (s : State) (button : Button) :
    readBinding s (buttonIndex button) = fromBit (s.readButton button) := by
  cases button <;> rfl

theorem readBinding_unknown (s : State) {idx : Nat} (h : 12 ≤ idx) : readBinding s idx = 0 := by
  obtain ⟨k, rfl⟩ := Nat.exists_eq_add_of_le' h
  rfl

/-- `GET` answers what its binding reads and changes nothing (44 R155 to R167). -/
theorem exec_getCommand (idx : Nat) (s : State) :
    exec (getCommand idx) s = .next (s.respond (.value (readBinding s idx))) := by
  obtain ⟨lever, rfl⟩ | ⟨flag, rfl⟩ | ⟨button, rfl⟩ | unknown := index_cases idx
  · cases lever <;> rfl
  · cases flag <;> rfl
  · cases button <;> rfl
  · rw [getCommand_unknown idx unknown, readBinding_unknown s unknown]
    rfl

/-! ### Which instructions leave a binding alone -/

section
variable {i : Instr} {s t : State}

theorem exec_readLever (h : exec i s = .next t) (lever : Lever) :
    readLever t lever = readLever s lever ∨ i.writesBinding lever.index = true := by
  cases lever with
  | power => exact exec_power h
  | brake => exact exec_brake h

theorem exec_readHat (h : exec i s = .next t) (flag : HatFlag) :
    readHat t flag = readHat s flag ∨ i.writesBinding flag.index = true := by
  obtain ⟨hup, hright, hdown, hleft⟩ := exec_flags h
  cases flag with
  | up => exact hup
  | right => exact hright
  | down => exact hdown
  | left => exact hleft

/-- What an instruction does not write reads the same after it (44 R185). -/
theorem exec_readBinding (h : exec i s = .next t) {idx : Nat} (unwritten : i.writesBinding idx = false) :
    readBinding t idx = readBinding s idx := by
  have notWritten : ¬ i.writesBinding idx = true := Bool.eq_false_iff.mp unwritten
  obtain ⟨lever, rfl⟩ | ⟨flag, rfl⟩ | ⟨button, rfl⟩ | unknown := index_cases idx
  · rw [readBinding_lever, readBinding_lever, (exec_readLever h lever).resolve_right notWritten]
  · rw [readBinding_hat, readBinding_hat, (exec_readHat h flag).resolve_right notWritten]
  · have kept : t.readButton button = s.readButton button := by
      refine (exec_readButton h button).resolve_right ?_
      rintro ⟨v, rfl⟩
      exact notWritten (writesBinding_setButton button v)
    rw [readBinding_button, readBinding_button, kept]
  · rw [readBinding_unknown t unknown, readBinding_unknown s unknown]

/-- A run that completes completed its first instruction and then the rest. -/
theorem runInstrs_cons_next {is : List Instr} (h : runInstrs (i :: is) s = .next t) :
    ∃ u, exec i s = .next u ∧ runInstrs is u = .next t := by
  rw [runInstrs] at h
  split at h
  · next u hexec => exact ⟨u, hexec, h⟩
  · cases h
  · cases h

end

/-- A binding that no instruction of a run writes reads the same after the run. -/
theorem runInstrs_readBinding {is : List Instr} {idx : Nat} {t : State}
    (unwritten : ∀ i ∈ is, i.writesBinding idx = false) :
    ∀ {s : State}, runInstrs is s = .next t → readBinding t idx = readBinding s idx := by
  induction is with
  | nil =>
    intro s h
    cases h
    rfl
  | cons i is ih =>
    intro s h
    obtain ⟨first, others⟩ := List.forall_mem_cons.mp unwritten
    obtain ⟨u, hexec, hrun⟩ := runInstrs_cons_next h
    exact (ih others hrun).trans (exec_readBinding hexec first)

/-- Settles O50: both `GET`s answer what the binding reads, which the run between them does not change. -/
theorem getIsStableBetweenWrites : Obligations.GetIsStableBetweenWrites := by
  intro is idx s t unwritten h
  refine ⟨readBinding s idx, exec_getCommand idx s, ?_⟩
  rw [exec_getCommand, runInstrs_readBinding unwritten h, State.respond]

/-! ### `RESET`, then `GET` -/

theorem writesBinding_reset {idx : Nat} (h : 2 ≤ idx) : Instr.reset.writesBinding idx = false := by
  simp only [Instr.writesBinding, Bool.or_eq_false_iff, beq_eq_false_iff_ne]
  omega

theorem readLever_of_reset {s t : State} (h : exec .reset s = .next t) (lever : Lever) : readLever t lever = 0 := by
  cases h
  cases lever <;> rfl

theorem fromRaw_zero : fromRaw 0 = 0 := by simp [fromRaw]

/-- Settles O49: `RESET` zeroes the levers and writes no other binding. -/
theorem resetThenGet : Obligations.ResetThenGet := by
  intro s t idx h
  constructor
  · intro axis
    obtain ⟨lever, rfl⟩ := exists_lever_of_le_one axis
    rw [exec_getCommand, readBinding_lever, readLever_of_reset h, fromRaw_zero, State.respond]
  · intro other
    refine ⟨readBinding s idx, exec_getCommand idx s, ?_⟩
    rw [exec_getCommand, exec_readBinding h (writesBinding_reset other), State.respond]

/-! ### `SET`, then `GET` -/

theorem fromBool_toFlag (ties : RoundTies) (v : Value) :
    fromBool (toFlag ties v) = if toRaw ties v ≠ 0 then 1 else 0 := by
  simp only [fromBool, toFlag_iff]

theorem fromBit_toBit (v : Value) : fromBit (toBit v) = if 1 / 2 ≤ v then 1 else 0 := by
  simp only [fromBit, toBit_iff]

/-- A `SET` completes, and its binding then reads the converted operand (44 R185). -/
theorem exec_setCommand_readBinding (idx : Nat) (v : Value) (s : State) :
    ∃ t, exec (setCommand idx v) s = .next t ∧ readBinding t idx =
      if idx ≤ 1 then fromRaw (toRaw s.roundTies v)
      else if idx ≤ 5 then (if toRaw s.roundTies v ≠ 0 then 1 else 0)
      else if idx ≤ 11 then (if 1 / 2 ≤ v then 1 else 0)
      else 0 := by
  obtain ⟨lever, rfl⟩ | ⟨flag, rfl⟩ | ⟨button, rfl⟩ | unknown := index_cases idx
  · refine ⟨_, exec_setCommand_lever lever v s, ?_⟩
    rw [readBinding_lever, readLever_writeLever, if_pos lever.index_le]
  · obtain ⟨notLever, hat⟩ := flag.index_mem
    refine ⟨_, (setCommand_hat flag v).symm ▸ exec_setHat flag v s, ?_⟩
    rw [readBinding_hat, readHat_writeHat_updateHat, fromBool_toFlag, if_neg notLever, if_pos hat]
  · obtain ⟨notLever, notHat, isButton⟩ := buttonIndex_mem button
    obtain ⟨t, hexec, stored⟩ := exec_setButton_readButton button v s
    refine ⟨t, (setCommand_button button v).symm ▸ hexec, ?_⟩
    rw [readBinding_button, stored, fromBit_toBit, if_neg notLever, if_neg notHat, if_pos isButton]
  · refine ⟨s, by rw [setCommand_unknown idx v unknown]; rfl, ?_⟩
    rw [readBinding_unknown s unknown, if_neg (show ¬ idx ≤ 1 by omega), if_neg (show ¬ idx ≤ 5 by omega),
      if_neg (show ¬ idx ≤ 11 by omega)]

/-- Settles O48: `GET` answers what the binding reads after the `SET`. -/
theorem getAfterSetReadsTheConversion : Obligations.GetAfterSetReadsTheConversion := by
  intro idx v s
  obtain ⟨t, hexec, reads⟩ := exec_setCommand_readBinding idx v s
  refine ⟨t, hexec, ?_⟩
  rw [exec_getCommand, reads]
  rfl

/-! ### The round trip of an axis (44 R184) -/

theorem runInstrs_set_get_lever (lever : Lever) (v : Value) (s : State) :
    runInstrs [setCommand lever.index v, getCommand lever.index] s =
      .next ((writeLever s lever (toRaw s.roundTies v)).respond (.value (fromRaw (toRaw s.roundTies v)))) := by
  rw [runInstrs_cons _ (exec_setCommand_lever lever v s), runInstrs_cons _ (exec_getCommand _ _), runInstrs_nil,
    readBinding_lever, readLever_writeLever]

/-- Setting an axis to the value it reads leaves the whole state unchanged. -/
theorem exec_setCommand_lever_of_read (lever : Lever) (s : State) :
    exec (setCommand lever.index (readBinding s lever.index)) s = .next s := by
  rw [exec_setCommand_lever, readBinding_lever, toRaw_fromRaw, writeLever_readLever]

theorem fromRaw_max : fromRaw 255 = 1 := by decide +kernel

/-- Settles O47: the error of the conversions, their second law, and the state that the second law gives back. -/
theorem axisRoundTrip : Obligations.AxisRoundTrip := by
  refine ⟨fun idx v s axis => ?setThenGet, toRaw_fromRaw, fun idx s t v axis hget answered => ?getThenSet⟩
  case setThenGet =>
    obtain ⟨lever, rfl⟩ := exists_lever_of_le_one axis
    refine ⟨_, fromRaw (toRaw s.roundTies v), runInstrs_set_get_lever lever v s, by simp, rfl,
      fun nonneg le_one => ?_, fun negative => ?_, fun above => ?_⟩
    · have error := abs_fromRaw_toRaw_sub_le s.roundTies nonneg le_one
      exact ⟨error, error.trans (by norm_num)⟩
    · rw [toRaw_of_neg s.roundTies negative, fromRaw_zero]
    · rw [toRaw_of_half_step_below_one_lt s.roundTies (by linarith), fromRaw_max]
  case getThenSet =>
    obtain ⟨lever, rfl⟩ := exists_lever_of_le_one axis
    rw [exec_getCommand] at hget
    cases hget
    obtain rfl : readBinding s lever.index = v := by simpa using answered
    exact exec_setCommand_lever_of_read lever s

end Sys2Proof.Proofs
end

section
/-! PROOFS. The binding commands one by one: the header that spells each, what it answers and the whole next state
(44 R155 to R183). -/

namespace Sys2Proof.Proofs

open Sys2Proof.Machine Sys2Proof.Laws

/-- Settles O40: only the row `(reserved)` has no meaning. -/
theorem everyCommandCompletes : Obligations.EveryCommandCompletes :=
  fun _ s spells => exec_completes spells s

/-! ### `GET` -/

/-- Settles O4: the levers read their byte over 255. -/
theorem getAxisRespondsRawOver255 : Obligations.GetAxisRespondsRawOver255 :=
  fun s _ => ⟨⟨rfl, exec_getCommand 0 s⟩, ⟨rfl, exec_getCommand 1 s⟩⟩

/-- Settles O5: the flags read 1 or 0. -/
theorem getHatFlagRespondsTheFlag : Obligations.GetHatFlagRespondsTheFlag :=
  fun s _ => ⟨⟨rfl, exec_getCommand 2 s⟩, ⟨rfl, exec_getCommand 3 s⟩, ⟨rfl, exec_getCommand 4 s⟩,
    ⟨rfl, exec_getCommand 5 s⟩⟩

theorem buttonMask_ne_zero (order : AbOrder) (button : Button) : buttonMask order button ≠ 0 := by
  cases order <;> cases button <;> decide

/-- A button's bit, tested by its mask (44 R161 to R166). -/
theorem fromBit_readButton (s : State) (button : Button) :
    fromBit (s.readButton button) = if s.buttons &&& buttonMask s.abOrder button = 0 then 0 else 1 := by
  have masked : s.buttons &&& buttonMask s.abOrder button =
      if s.readButton button = true then buttonMask s.abOrder button else 0 := BitVec.and_twoPow _ _
  rw [masked]
  cases s.readButton button with
  | true => rw [if_pos rfl, if_neg (buttonMask_ne_zero s.abOrder button), fromBit, if_pos rfl]
  | false => rw [if_neg Bool.false_ne_true, if_pos rfl, fromBit, if_neg Bool.false_ne_true]

/-- `GET` of a button, its mask named. -/
theorem exec_getButton {s : State} {button : Button} {mask : Byte} (h : buttonMask s.abOrder button = mask) :
    exec (getCommand (buttonIndex button)) s = .next { s with responses := s.responses ++
      [.value (if s.buttons &&& mask = 0 then 0 else 1)] } := by
  rw [exec_getCommand, readBinding_button, fromBit_readButton, h, State.respond]

theorem buttonMask_b (order : AbOrder) : buttonMask order .b = if order = .bLow then 0x01 else 0x02 := by
  cases order <;> rfl

theorem buttonMask_a (order : AbOrder) : buttonMask order .a = if order = .bLow then 0x02 else 0x01 := by
  cases order <;> rfl

/-- Settles O6: each button reads its bit, found by its mask. -/
theorem getButtonRespondsItsBit : Obligations.GetButtonRespondsItsBit :=
  fun s _ => ⟨⟨rfl, exec_getButton (button := .b) (buttonMask_b s.abOrder)⟩,
    ⟨rfl, exec_getButton (button := .a) (buttonMask_a s.abOrder)⟩,
    ⟨rfl, exec_getButton (button := .c) rfl⟩, ⟨rfl, exec_getButton (button := .d) rfl⟩,
    ⟨rfl, exec_getButton (button := .select) rfl⟩, ⟨rfl, exec_getButton (button := .start) rfl⟩⟩

/-! ### An unknown index -/

/-- The headers of `GET` and `SET` count up with the index (30 R62, 44 R151). -/
theorem headerOf_eq_add {idx : Nat} (h : idx < 16) :
    headerOf 0x0 (BitVec.ofNat 4 idx) = 0x00 + BitVec.ofNat 8 idx ∧
      headerOf 0x1 (BitVec.ofNat 4 idx) = 0x10 + BitVec.ofNat 8 idx := by
  revert idx
  decide

/-- Settles O7: an index from 12 up names no control; where the word has room for it, decode of encode spells it. -/
theorem unknownIndexReadsZeroAndWritesNothing : Obligations.UnknownIndexReadsZeroAndWritesNothing := by
  intro idx v s rest unknown
  have hget := getCommand_unknown idx unknown
  have hset := setCommand_unknown idx v unknown
  refine ⟨hget, hset, rfl, rfl, fun encodable => ?_⟩
  obtain ⟨getHeader, setHeader⟩ := headerOf_eq_add encodable
  rw [← getHeader, ← setHeader, ← hget, ← hset]
  exact ⟨decode_encodeGet encodable rest, decode_encodeSet encodable v rest⟩

/-! ### `SET` of a lever -/

/-- The byte of one fifth (44 R168). -/
theorem toRaw_one_fifth (ties : RoundTies) : toRaw ties (1 / 5) = 0x33 := by
  have reads : fromRaw 0x33 = 1 / 5 := by decide +kernel
  rw [← reads, toRaw_fromRaw]

/-- Settles O10: the stored byte, then the corner cases by the part of the range they lie in. -/
theorem setPowerStoresTheRoundedByte : Obligations.SetPowerStoresTheRoundedByte :=
  fun v s _ => ⟨rfl, exec_setCommand_lever .power v s, toRaw_eq_ofInt_max_min s.roundTies v,
    toRaw_of_lt_half_step s.roundTies, toRaw_of_half_step_below_one_lt s.roundTies, by decide +kernel,
    toRaw_one_half s.roundTies, by decide +kernel, by decide +kernel,
    toRaw_of_half_step_below_one_lt s.roundTies (by norm_num), toRaw_of_neg s.roundTies (by norm_num),
    toRaw_one_fifth s.roundTies⟩

/-- Settles O11: as for power, with 1 the top of the range. -/
theorem setBrakeStoresTheRoundedByte : Obligations.SetBrakeStoresTheRoundedByte :=
  fun v s _ => ⟨rfl, exec_setCommand_lever .brake v s, toRaw_eq_ofInt_max_min s.roundTies v,
    toRaw_of_lt_half_step s.roundTies, toRaw_of_half_step_below_one_lt s.roundTies, by decide +kernel,
    toRaw_one_half s.roundTies, by decide +kernel, by decide +kernel,
    toRaw_of_half_step_below_one_lt s.roundTies (by norm_num), toRaw_of_neg s.roundTies (by norm_num),
    toRaw_of_half_step_below_one_lt s.roundTies (by norm_num)⟩

/-! ### `SET` of a hat flag -/

/-- Settles O12: the flag by its threshold, then the write and the hat recomputation of each `SET`. -/
theorem setHatFlagWritesFlagAndCode : Obligations.SetHatFlagWritesFlagAndCode := by
  intro v s rest f hf
  have flag : toFlag s.roundTies v = f := (toFlag_eq_decide s.roundTies v).trans hf.symm
  subst flag
  exact ⟨rfl, ⟨rfl, exec_setHat .up v s⟩, ⟨rfl, exec_setHat .right v s⟩, ⟨rfl, exec_setHat .down v s⟩,
    ⟨rfl, exec_setHat .left v s⟩⟩

/-! ### `SET` of a button -/

/-- `SET` of a button, the new byte written out: or with the mask, or and with its complement (44 R174 to R179). -/
theorem exec_setButton_buttons {button : Button} {v : Value} {s : State} {new : Byte}
    (h : (if 1 / 2 ≤ v then s.buttons ||| buttonMask s.abOrder button
      else s.buttons &&& ~~~(buttonMask s.abOrder button)) = new) :
    exec (setButton button v) s = .next { s with buttons := new } := by
  subst h
  simp only [exec_setButton, State.writeButton, toBit_iff]

/-- `SET` of a button, the mask and its complement named. -/
theorem exec_setButton_masks {button : Button} {v : Value} {s : State} {mask others : Byte}
    (hmask : buttonMask s.abOrder button = mask) (hothers : ~~~mask = others) :
    exec (setButton button v) s = .next { s with buttons :=
      if 1 / 2 ≤ v then s.buttons ||| mask else s.buttons &&& others } :=
  exec_setButton_buttons (by rw [hmask, hothers])

/-- Settles O13: the masks of the six buttons, those of B and A by `AB_ORDER`. -/
theorem setButtonWritesItsBit : Obligations.SetButtonWritesItsBit :=
  fun v s _ => ⟨⟨rfl, exec_setButton_buttons (button := .b) (by cases s.abOrder <;> rfl)⟩,
    ⟨rfl, exec_setButton_buttons (button := .a) (by cases s.abOrder <;> rfl)⟩,
    ⟨rfl, exec_setButton_masks (button := .c) rfl rfl⟩, ⟨rfl, exec_setButton_masks (button := .d) rfl rfl⟩,
    ⟨rfl, exec_setButton_masks (button := .select) rfl rfl⟩, ⟨rfl, exec_setButton_masks (button := .start) rfl rfl⟩⟩

/-! ### `RESET`, `SAVE`, `LOAD` -/

theorem exec_reset (s : State) : exec .reset s = .next { s with power := 0x00, brake := 0x00 } := rfl

theorem exec_save (s : State) :
    exec .save s = .next { s with responses := s.responses ++ [.snapshot s.power s.brake] } := rfl

theorem exec_load (p b : Byte) (s : State) : exec (.load p b) s = .next { s with power := p, brake := b } := rfl

/-- Settles O14: the header's word and the meaning of `RESET`. -/
theorem resetZeroesTheLeversOnly : Obligations.ResetZeroesTheLeversOnly :=
  fun s _ => ⟨rfl, exec_reset s⟩

/-- Settles O15: the meanings of `SAVE` and `LOAD`, and the two in a row. -/
theorem saveAndLoadMoveTheTwoLeverBytes : Obligations.SaveAndLoadMoveTheTwoLeverBytes := by
  intro p b s rest
  refine ⟨⟨rfl, exec_save s⟩, ⟨rfl, exec_load p b s⟩, ?_⟩
  rw [runInstrs_cons _ (exec_load p b s), runInstrs_cons _ (exec_save _), runInstrs_nil]

end Sys2Proof.Proofs
end

section
/-! PROOFS. The block's one error, `UnsupportedVariant`: which response it is, and that nothing of it stays behind
(60 R200 to R207). -/

namespace Sys2Proof.Proofs

open Sys2Proof.Machine Sys2Proof.Laws

/-! ### What an instruction responds, and that it looks at no earlier response -/

/-- What an instruction other than `REPORT` responds on its way from `s` to `t`: at most one answer, none of them a
report, and whatever draws and responses came before, the same answer and the same registers. -/
structure Answers (i : Instr) (s t : State) (out : List Response) : Prop where
  responses : t.responses = s.responses ++ out
  atMostOne : out.length ≤ 1
  noReport : ∀ len buf, .report len buf ∉ out
  anyHistory : ∀ draws history, exec i { s with freeDraws := draws, responses := history } =
    .next { t with freeDraws := draws, responses := history ++ out }

section
variable {i : Instr} {s t : State}

/-- `GET`, `SAVE` and the function units answer once; `SET`, `RESET` and `LOAD` not at all (30 R63, R77). -/
theorem exec_answers (other : i.spelled ≠ .report) (h : exec i s = .next t) : ∃ out, Answers i s t out := by
  cases i with
  | getPower | getBrake | getHatUp | getHatRight | getHatDown | getHatLeft | getButtonB | getButtonA | getButtonC
  | getButtonD | getSelect | getStart | getUnknown _ | save | hatenc _ _ _ _ | quantT2P _ | quantT2B _ | quantSKP _
  | quantSKB _ | remapT2 _ | remapSK _ | serT2 _ _ _ _ | serSK _ _ _ _ =>
    cases h
    exact ⟨[_], rfl, le_rfl, by simp, fun _ _ => rfl⟩
  | report | reportType2 | reportShinkansen | reportRyojouhen => exact absurd rfl other
  | reserved header => cases h
  | _ =>
    cases h
    exact ⟨[], (List.append_nil _).symm, Nat.zero_le 1, by simp, fun _ _ => by rw [List.append_nil]; rfl⟩

/-- A `REPORT` responds one report, of length 6 or, without a serializer, of negative length (43 R144, 60 R201). -/
theorem exec_report_responses (spelled : i.spelled = .report) (h : exec i s = .next t) :
    ∃ len buf, t.responses = s.responses ++ [.report len buf] ∧ (len < 0 ↔ s.model = .ryojouhen) ∧
      (len < 0 ∨ len = 6) := by
  cases model : s.model with
  | type2 =>
    cases h.symm.trans (exec_report_of_type2 spelled model)
    exact ⟨6, _, rfl, by decide, .inr rfl⟩
  | shinkansen =>
    cases h.symm.trans (exec_report_of_shinkansen spelled model)
    exact ⟨6, _, rfl, by decide, .inr rfl⟩
  | ryojouhen =>
    cases h.symm.trans (exec_report_of_ryojouhen spelled model)
    exact ⟨Config.errIoError, _, rfl, iff_of_true errIoError_neg rfl, .inl errIoError_neg⟩

end

/-! ### The obligations -/

/-- Settles O21: a `REPORT` responds one report, whose sign tells the model; nothing else responds a report. -/
theorem onlyReportOnRyojouhenRespondsAnError : Obligations.OnlyReportOnRyojouhenRespondsAnError := by
  intro i s t h
  by_cases spelled : i.spelled = .report
  · obtain ⟨len, buf, responses, negative, length⟩ := exec_report_responses spelled h
    refine ⟨[.report len buf], responses, le_rfl, ?_, ?_⟩
    · simp [spelled, negative]
    · intro len' buf' mem
      obtain ⟨rfl, -⟩ : len' = len ∧ buf' = buf := by simpa using mem
      exact length
  · obtain ⟨out, answers⟩ := exec_answers spelled h
    refine ⟨out, answers.responses, answers.atMostOne, ⟨?_, ?_⟩, ?_⟩
    · rintro ⟨len, buf, mem, -⟩
      exact absurd mem (answers.noReport len buf)
    · exact fun report => absurd report.1 spelled
    · exact fun len buf mem => absurd mem (answers.noReport len buf)

/-- Settles O22: the failure leaves the hat code recomputed, one buffer drawn and one response more. A second `REPORT`
fails in the same way; no other instruction looks at the draws or the responses before it. -/
theorem unsupportedVariantIsNotSticky : Obligations.UnsupportedVariantIsNotSticky := by
  intro i s t u model failed h
  cases failed.symm.trans (exec_report_ryojouhen model)
  by_cases spelled : i.spelled = .report
  · cases h.symm.trans (exec_report_of_ryojouhen spelled model)
    exact ⟨_, exec_report_of_ryojouhen spelled model, rfl, fun other => absurd spelled other⟩
  · obtain ⟨out, answers⟩ := exec_answers spelled h
    exact ⟨_, answers.anyHistory _ _, rfl, fun _ => ⟨out, rfl, answers.responses⟩⟩

end Sys2Proof.Proofs
end

section
/-! PROOFS. The block as instantiated and as `RESET` leaves it, and a step to which no command is presented
(70 R220 to R225, 20 R47). -/

namespace Sys2Proof.Proofs

open Sys2Proof.Machine Sys2Proof.Laws

/-! ### Instantiation (70 R220) -/

/-- Settles O1: instantiation and the ROMs by their definitions, the strap as every step keeps it. -/
theorem instantiationZeroesEveryField : Obligations.InstantiationZeroesEveryField := by
  refine ⟨fun m => ⟨rfl, rfl, rfl, rfl, rfl, rfl, rfl, rfl, rfl⟩, fun s t h => ?strap, rfl, rfl, rfl, rfl⟩
  case strap =>
    obtain ⟨model, -⟩ := stepKeepsTheStrap s t h
    exact model

/-! ### Reports with both levers released (70 R224) -/

/-- The Type2 layout carries the last output of each of its tables for a released lever. -/
theorem serT2_released (hat buttons : Byte) :
    serT2 0x00 0x00 hat buttons = ⟨0x01, 0x79, 0x81, 0xFF, hatByte hat, remapT2 buttons⟩ := by
  obtain ⟨power, -, brake, -⟩ := quantAtTheEndPoints
  rw [serT2, brake, power, reservedByte]

/-- The Shinkansen layout carries the last output of each of its tables for a released lever. -/
theorem serSK_released (hat buttons : Byte) :
    serSK 0x00 0x00 hat buttons = ⟨0x1C, 0x12, 0xFF, hatByte hat, remapSK buttons, 0x00⟩ := by
  obtain ⟨-, -, -, -, power, -, brake, -⟩ := quantAtTheEndPoints
  rw [serSK, brake, power, reservedByte]

section
variable {s : State}

theorem exec_report_released_type2 (model : s.model = .type2) (power : s.power = 0x00) (brake : s.brake = 0x00) :
    exec .report s = .next (s.updateHat.respond
      (.report 6 ⟨0x01, 0x79, 0x81, 0xFF, hatByte s.hatCode, remapT2 s.buttons⟩)) := by
  rw [exec_report_of_type2 rfl model, power, brake, serT2_released]

theorem exec_report_released_shinkansen (model : s.model = .shinkansen) (power : s.power = 0x00)
    (brake : s.brake = 0x00) :
    exec .report s = .next (s.updateHat.respond
      (.report 6 ⟨0x1C, 0x12, 0xFF, hatByte s.hatCode, remapSK s.buttons, 0x00⟩)) := by
  rw [exec_report_of_shinkansen rfl model, power, brake, serSK_released]

end

theorem runInstrs_reset_report (s : State) :
    runInstrs [.reset, .report] s = exec .report { s with power := 0x00, brake := 0x00 } := by
  obtain ⟨t, hreport⟩ := exec_completes (i := .report) rfl { s with power := 0x00, brake := 0x00 }
  rw [runInstrs_cons _ (exec_reset s), runInstrs_cons _ hreport, runInstrs_nil, hreport]

/-- Settles O2: instantiation and `RESET` both leave the levers released, and the strap picks the layout. -/
theorem firstReportOfAFreshInstance : Obligations.FirstReportOfAFreshInstance := by
  refine ⟨exec_report_released_type2 rfl rfl rfl, exec_report_released_shinkansen rfl rfl rfl,
    ⟨_, _, exec_report_ryojouhen rfl⟩, fun s model => ?type2, fun s model => ?shinkansen⟩
  case type2 =>
    exact ⟨_, _, _, (runInstrs_reset_report s).trans (exec_report_released_type2 model rfl rfl), rfl⟩
  case shinkansen =>
    exact ⟨_, _, _, (runInstrs_reset_report s).trans (exec_report_released_shinkansen model rfl rfl), rfl⟩

/-! ### A step without a command (20 R47, 30 R61, 70 R225, log 10) -/

/-- A header of `SET` hands the items after it to the reader of the one operand. -/
theorem decode_setHeader {h : Byte} (op : (opField h).toNat = 1) (rest : List PortItem) :
    decode (.byte h :: rest) = decodeSet (idxField h).toNat rest := by
  simp only [decode_byte, decodeCommand, op]

/-- A header of `LOAD` hands the items after it to the reader of the two operands. -/
theorem decode_loadHeader {h : Byte} (op : (opField h).toNat = 5) (rest : List PortItem) :
    decode (.byte h :: rest) = decodeLoad rest := by
  simp only [decode_byte, decodeCommand, op]

theorem step_of_presented_error {s : State} {items : List PortItem} {e : DecodeError} (presented : s.input = items)
    (h : decode items = .error e) : step s = s.noInstruction e :=
  step_of_decode_error (presented ▸ h)

/-- Settles O39: the decoder's error for each input, which the step answers by name. -/
theorem stepWithoutACommand : Obligations.StepWithoutACommand := by
  intro s h v rest
  refine ⟨fun input => ?nothing, fun input => ?value, fun op input => ?setEnds, ?setByte, ?loadEnds⟩
  case nothing => exact step_of_presented_error input decode_nil
  case value => exact step_of_presented_error input (decode_value v rest)
  case setEnds => exact step_of_presented_error input (decode_setHeader op [])
  case setByte =>
    rintro op ⟨b, input⟩
    exact step_of_presented_error input (decode_setHeader op (.byte b :: rest))
  case loadEnds =>
    rintro op (input | ⟨p, input⟩)
    · exact step_of_presented_error input (decode_loadHeader op [])
    · exact step_of_presented_error input (decode_loadHeader op [.byte p])

end Sys2Proof.Proofs
end

section
/-! PROOFS. The document's two scenarios, whatever code the hat field held before the report (95 E1, E2). -/

namespace Sys2Proof.Proofs

open Sys2Proof.Machine Sys2Proof.Laws

/-- The last notch of `T2P` reaches up to `0x27`: the lookup answers the same at both ends of that range and is
monotone between them (41 R108). -/
theorem quant_t2p_of_le {p : Byte} (h : p.toNat ≤ 0x27) : quant .t2p p = 0x81 := by
  have atEnd : quant .t2p 0x27 = 0x81 := by decide
  have atZero : quant .t2p 0x00 = 0x81 := quantAtTheEndPoints.1
  apply BitVec.le_antisymm
  · exact (quant_t2p_antitone (BitVec.le_def.mpr (Nat.zero_le _))).trans_eq atZero
  · exact atEnd.symm.trans_le (quant_t2p_antitone (BitVec.le_def.mpr h))

/-- The Type2 layout with the brake released, the hat neutral and no button set: the power notch alone varies. -/
theorem serT2_power_only (power : Byte) :
    serT2 0x00 power 0x08 0x00 = ⟨0x01, 0x79, quant .t2p power, 0xFF, 0x08, 0x00⟩ := by
  obtain ⟨-, -, brake, -⟩ := quantAtTheEndPoints
  rw [serT2, brake]
  rfl

/-- The Shinkansen layout with the brake full, the hat up and button A set: `REMAP_SK` takes bit 1 to bit 3. -/
theorem serSK_full_brake_hat_up_button_a : serSK 0xFF 0x00 0x00 0x02 = ⟨0xFB, 0x12, 0xFF, 0x00, 0x08, 0x00⟩ := by
  obtain ⟨-, -, -, -, power, -, -, brake, -⟩ := quantAtTheEndPoints
  rw [serSK, brake, power]
  rfl

/-- A fresh Type2 block reports its power notch; the hat code is recomputed from the clear flags, so the code held
before is not read. -/
theorem exec_report_type2_power_only (power hat : Byte) :
    ∃ t, exec .report { State.instantiate .type2 with power := power, hatSwitch := hat } = .next t ∧
      t.responses = [.report 6 ⟨0x01, 0x79, quant .t2p power, 0xFF, 0x08, 0x00⟩] := by
  refine ⟨_, exec_report_of_type2 rfl rfl, ?_⟩
  rw [← serT2_power_only]
  rfl

/-- Settles O3: E1a and E1b are one report at two power notches, `0x00` at full power and `0x81` up to `0x27`. -/
theorem theTwoScenarios : Obligations.TheTwoScenarios := by
  intro hat
  refine ⟨?fullPower, fun p low => ?lowPower, ?scenarioB⟩
  case fullPower =>
    obtain ⟨-, full, -⟩ := quantAtTheEndPoints
    exact full ▸ exec_report_type2_power_only 0xFF hat
  case lowPower => exact quant_t2p_of_le low ▸ exec_report_type2_power_only p hat
  case scenarioB =>
    refine ⟨_, exec_report_of_shinkansen rfl rfl, ?_⟩
    rw [← serSK_full_brake_hat_up_button_a]
    rfl

end Sys2Proof.Proofs
end
